-- ==== Sys2Proof/Word.lean ====
section
/-! DEFINITION. The word types of the part: bytes, port numbers, station addresses, sets of ports. -/

namespace Sys2Proof

/-- One byte of the management link (R160). -/
abbrev Byte := BitVec 8

/-- A port number, 0 to 39 (section 0.7). -/
abbrev Port := Fin 40

/-- A station port number, 0 to 31 (section 0.7). -/
abbrev StationPort := Fin 32

/-- A tenant number, 0 to 63 (R1). -/
abbrev TenantId := Fin 64

/-- A segment number; 1 to 1023 name segments (R7), 0 names none. -/
abbrev SegmentId := Fin 1024

/-- A station address, 48 bits, its first written byte the most significant (section 0.7). -/
abbrev StationAddr := BitVec 48

/-- A set of the forty ports. -/
abbrev PortSet := Vector Bool 40

/-- The empty set of ports. -/
def PortSet.empty : PortSet := Vector.replicate 40 false

/-- A countdown timer in microseconds: stopped, or the time left. -/
abbrev Countdown := Option Nat

/-- A timer that measures the microseconds since it started: stopped, or the time passed. -/
abbrev Elapsed := Option Nat

end Sys2Proof
end

