-- ==== Sys2Proof/Syntax.lean ====
section
/-! DEFINITION. The commands of the part: one constructor per row of spec/opcode_table.json. -/

namespace Sys2Proof

/-- A data frame as the line interface delivers it at its arrival (R104): its addresses, the segment
tag and priority a trunk frame carries (R16), its length, the outcome of the frame check, and the
rest of its bytes, which the part stores and sends without reading them (log 22). -/
structure DataFrame where
  dst : StationAddr
  src : StationAddr
  tag : Nat
  priority : Fin 8
  length : Nat
  goodCheck : Bool
  payload : List Byte
  deriving DecidableEq, Repr

/-- A command. A host request carries the tag and the body bytes of its frame (Table 10-4); a line
event names its port; an event of the link's receiver carries the bytes received. -/
inductive Instr where
  | tenantDefine (tag : Byte) (body : List Byte)
  | tenantRemove (tag : Byte) (body : List Byte)
  | tenantQuery (tag : Byte) (body : List Byte)
  | tenantBind (tag : Byte) (body : List Byte)
  | segmentDefine (tag : Byte) (body : List Byte)
  | segmentRemove (tag : Byte) (body : List Byte)
  | stationAdd (tag : Byte) (body : List Byte)
  | stationRemove (tag : Byte) (body : List Byte)
  | stationFind (tag : Byte) (body : List Byte)
  | stationFlush (tag : Byte) (body : List Byte)
  | stationStatus (tag : Byte) (body : List Byte)
  | trunkGroup (tag : Byte) (body : List Byte)
  | forwardStatus (tag : Byte) (body : List Byte)
  | bufferQuery (tag : Byte) (body : List Byte)
  | reliefSet (tag : Byte) (body : List Byte)
  | reliefQuery (tag : Byte) (body : List Byte)
  | portSet (tag : Byte) (body : List Byte)
  | portAdjust (tag : Byte) (body : List Byte)
  /-- R118: the PORT-ADJUST whose one pair is enabled = yes (log 6). -/
  | enable (tag port : Byte)
  /-- R119: the PORT-ADJUST whose one pair is enabled = no (log 6). -/
  | disable (tag port : Byte)
  | portQuery (tag : Byte) (body : List Byte)
  | portRelease (tag : Byte) (body : List Byte)
  | portFaults (tag : Byte) (body : List Byte)
  | lineMeasure (tag : Byte) (body : List Byte)
  | lineCalibrate (tag : Byte) (body : List Byte)
  | billStart (tag : Byte) (body : List Byte)
  | billStop (tag : Byte) (body : List Byte)
  | billHold (tag : Byte) (body : List Byte)
  | billResume (tag : Byte) (body : List Byte)
  | billClose (tag : Byte) (body : List Byte)
  | billSet (tag : Byte) (body : List Byte)
  | billDrain (tag : Byte) (body : List Byte)
  | billLock (tag : Byte) (body : List Byte)
  | billQuery (tag : Byte) (body : List Byte)
  | noticeMask (tag : Byte) (body : List Byte)
  | hello (tag : Byte) (body : List Byte)
  | restart (tag : Byte) (body : List Byte)
  /-- R163: a good frame whose kind is no request kind. -/
  | badKind (kind tag : Byte) (body : List Byte)
  /-- R162: a good frame that arrives while all four places are held. -/
  | requestOverflow (kind tag : Byte) (body : List Byte)
  /-- R161: bytes received, marker first, that make a framing error (log 7). -/
  | framingError (bytes : List Byte)
  /-- R161: the gap since the last byte of the frame in reception has its end, with the bytes received after
  it, if any; bytes that leave a frame in reception begin the next gap (log 7). -/
  | byteGapTimeout (bytes : List Byte)
  | frameSendEnd
  | powerRestart
  | pinRestart
  | leaveRestart
  | frameReceptionBegin (port : Port)
  | dataFrameArrival (port : Port) (frame : DataFrame)
  | transmissionCompletion (port : Port)
  | pauseFrameReceived (port : Port) (time : BitVec 16)
  | releaseFrameReceived (port : Port)
  | peerPauseExpiry (port : Port)
  | beaconReceived (port : Port) (count : Fin 4)
  | beaconTimerExpiry (port : Port)
  | errorWindowEnd (port : Port)
  | silenceTimerExpiry (port : Port)
  | quietTimerExpiry (port : Port)
  | lineGoodDrop (port : Port)
  | lineGoodRise (port : Port)
  | qualificationComplete (port : Port)
  | receivedBreakBegin (port : Port)
  | receivedBreakEnd (port : Port)
  | breakDetected (port : Port)
  | breakSendEnd (port : Port)
  | holddownExpiry (port : Port)
  | steadyTimerComplete (port : Port)
  | flapWindowExpiry (port : Port)
  | pausingPhaseExpiry (port : Port)
  | releasingPhaseExpiry (port : Port)
  /-- R138: the end of a measurement, with the raw margin the circuit yields. -/
  | measurementComplete (raw : Byte)
  | agingSweep
  | epochTick
  | epochExpiry
  /-- Section 0.7, R92: the passing of `n` base ticks of 1 µs (log 5). -/
  | baseTick (n : Nat)
  deriving DecidableEq, Repr

end Sys2Proof
end

