-- ==== Sys2Proof/Decode.lean ====
section
/-! DEFINITION. The table gives no row bits, so no word spells a command. -/

namespace Sys2Proof

/-- The command a word spells: none, since spec/opcode_table.json gives its rows no bits. -/
def decodeTableWord (_nbits _w : Nat) : Option Instr := none

end Sys2Proof
end

