-- ==== Sys2Proof/Config.lean ====
section
/-! DEFINITION. What an implementation fixes and the spec leaves open: the free values. -/

namespace Sys2Proof

/-- The silicon revision, reported by HELLO as an ASCII capital letter (R168): which letter is the
part's own, so it is a free value (log 16). -/
opaque Config.siliconRevision : Fin 26

/-- A byte whose content the spec does not state (log 16), drawn with `State.freeCount`. -/
opaque Config.freeByte : Nat → BitVec 8

end Sys2Proof
end

