-- ==== Sys2Proof/Machine/State.lean ====
section
/-! DEFINITION. The state of the part, block by block (Table 0-1), as plain data, and the state after
reset. -/

namespace Sys2Proof.Machine

open Sys2Proof

/-! ### Tenant Directory (chapter 1) -/

/-- A tenant entry (Table 1-2) with its retired mark. -/
structure Tenant where
  defined : Bool
  heldSet : BitVec 8
  quotaCells : Nat
  stationLimit : Nat
  retired : Bool
  deriving DecidableEq, Repr

/-- The two trunk groups (R50). -/
inductive Group where
  | a
  | b
  deriving DecidableEq, Repr

/-- A defined segment (R7). -/
structure Segment where
  owner : TenantId
  trunkGroup : Option Group
  deriving DecidableEq, Repr

/-- A binding that is a pair (R11). -/
structure Binding where
  tenant : TenantId
  segment : SegmentId
  deriving DecidableEq, Repr

/-- The Tenant Directory (Table 1-1). A segment is undefined where `none` stands; a staged binding is
absent where the outer `none` stands, and is itself a pair or none. -/
structure Directory where
  tenants : Vector Tenant 64
  segments : Vector (Option Segment) 1024
  applied : Vector (Option Binding) 32
  staged : Vector (Option (Option Binding)) 32
  deriving DecidableEq, Repr

/-! ### Station Table (chapter 2) -/

/-- Where frames for a station are sent (Table 2-1). -/
inductive Target where
  | port (p : StationPort)
  | group (g : Group)
  deriving DecidableEq, Repr

/-- The kind of an entry; the seen mark is present in LEARNED entries only (Table 2-1). -/
inductive EntryKind where
  | learned (seen : Bool)
  | fixed
  deriving DecidableEq, Repr

/-- A station entry (Table 2-1). -/
structure StationEntry where
  segment : SegmentId
  address : StationAddr
  kind : EntryKind
  target : Target
  tenant : TenantId
  deriving DecidableEq, Repr

/-- The Station Table (R18, R20, R27). -/
structure StationTable where
  entries : List StationEntry
  sweepPeriod : Nat
  sweepElapsed : Nat
  refusedLimit : Vector (BitVec 32) 64
  refusedBucket : BitVec 32
  moves : BitVec 32
  deriving DecidableEq, Repr

/-! ### Forwarding Engine (chapter 3) -/

/-- A trunk group: its member set and its UP membership, bit i for port 32 + i (R50). -/
structure TrunkGroup where
  members : BitVec 8
  up : BitVec 8
  deriving DecidableEq, Repr

/-- The Forwarding Engine (R47, R50). -/
structure Forwarding where
  groupA : TrunkGroup
  groupB : TrunkGroup
  filtered : Vector (BitVec 32) 40
  refusedPolicy : Vector (BitVec 32) 40
  refusedUnavailable : Vector (BitVec 32) 40
  deriving DecidableEq, Repr

/-! ### Buffer Manager (chapter 4) -/

/-- The two classes of a frame (R17). -/
inductive TrafficClass where
  | held
  | bulk
  deriving DecidableEq, Repr

/-- The part of the pool a stored frame's cells lie in (R54). -/
inductive Storage where
  | common
  | headroom
  deriving DecidableEq, Repr

/-- A stored-frame record (Table 4-2) with the frame's data. -/
structure StoredFrame where
  tenant : TenantId
  ingress : Port
  cls : TrafficClass
  length : Nat
  cells : Nat
  storage : Storage
  flowHash : Fin 256
  copiesRemaining : Nat
  data : DataFrame
  deriving DecidableEq, Repr

/-- A copy entry (R59); the queue it stands in gives its egress and class. -/
structure CopyEntry where
  frame : Nat
  marked : Bool
  inTransmission : Bool
  deriving DecidableEq, Repr

/-- The Buffer Manager: records in use by id, the 80 egress queues, the held streaks (R58 to R60, R67). -/
structure Buffer where
  records : List (Nat × StoredFrame)
  held : Vector (List CopyEntry) 40
  bulk : Vector (List CopyEntry) 40
  streak : Vector Nat 40
  deriving DecidableEq, Repr

/-! ### Relief Controller (chapter 5) -/

/-- The relief settings (Table 5-2). -/
structure ReliefSettings where
  bulkLimit : Nat
  markThreshold : Nat
  heldLimit : Nat
  paceOn : Nat
  paceOff : Nat
  share : Nat
  pauseTime : Nat
  releaseTime : Nat
  deriving DecidableEq, Repr

/-- The state of a pacing generator (R86). -/
inductive GeneratorState where
  | idle
  | pausing
  | releasing
  deriving DecidableEq, Repr

/-- A pacing generator (R86). -/
structure Generator where
  state : GeneratorState
  timer : Countdown
  pausesSent : BitVec 32
  releasesSent : BitVec 32
  deriving DecidableEq, Repr

/-- The Relief Controller (Table 5-1). `contributors[q]` is the contributor set of port q's held queue. -/
structure Relief where
  settings : ReliefSettings
  congested : Vector Bool 40
  contributors : Vector PortSet 40
  paced : PortSet
  generators : Vector Generator 40
  deriving DecidableEq, Repr

/-! ### Port Units (chapters 6 and 7) -/

/-- The six link states (R117). -/
inductive LinkState where
  | disabled
  | down
  | probing
  | up
  | fenced
  | barred
  deriving DecidableEq, Repr

/-- The five faults (R114). -/
inductive FaultCause where
  | lineLost
  | peerBreak
  | silent
  | errorBurst
  | marginLow
  deriving DecidableEq, Repr

/-- The configured record (Table 6-1); a field the port's kind lacks holds 0. -/
structure PortConfig where
  enabled : Bool
  defaultPriority : Nat
  headroomCells : Nat
  errorWindowMs : Nat
  errorThreshold : Nat
  qualifyMs : Nat
  breakMs : Nat
  quietMs : Nat
  beaconMs : Nat
  missLimit : Nat
  marginThreshold : Nat
  holddownBaseMs : Nat
  flapLimit : Nat
  flapWindowS : Nat
  deriving DecidableEq, Repr

/-- A fault capture (Table 7-3). -/
structure Capture where
  cause : FaultCause
  timestamp : BitVec 48
  stateAtFault : LinkState
  errorCount : Nat
  flapCount : Nat
  barred : Bool
  copiesFlushed : Nat
  copiesRehomed : Nat
  unread : Bool
  overwritten : Bool
  deriving DecidableEq, Repr

/-- A frame in reception (R104): the link state noted at its beginning, whether the state has changed
since, whether a fence or a disable has been taken since, and, where the one such was a SILENT fence,
the time of that fence (R109, log 15). -/
structure Reception where
  noted : LinkState
  changed : Bool
  cut : Bool
  silencedAt : Option (BitVec 48)
  deriving DecidableEq, Repr

/-- A received break being measured (R112): the time left of its first millisecond, and whether its detection
is over: taken, or spent in DISABLED, where there is none. -/
structure ReceivedBreak where
  left : Nat
  detected : Bool
  deriving DecidableEq, Repr

/-- A pause frame with its pause time, or a release frame (R91). -/
inductive ControlFrame where
  | pause (time : Nat)
  | release
  deriving DecidableEq, Repr

/-- A Port Unit: the configured record, the link state machine, the monitors, the line interface's two
waiting places (R91, R98, R99, R105 to R117, R125, R126, R129). -/
structure PortUnit where
  config : PortConfig
  link : LinkState
  lineGood : Bool
  latched : BitVec 8
  errorCount : Nat
  errorWindow : Countdown
  beaconsSent : BitVec 32
  beaconsReceived : BitVec 32
  lastBeacon : Option (Fin 4)
  gapCount : BitVec 32
  rollingCount : Fin 4
  beaconTimer : Countdown
  reference : Option (Fin 4)
  silence : Elapsed
  quiet : Bool
  quietTimer : Countdown
  breakTimer : Countdown
  breaksReceived : BitVec 32
  receivedBreak : Option ReceivedBreak
  qualification : Countdown
  peerPause : Countdown
  spoof : BitVec 32
  reception : Option Reception
  waitingControl : Option ControlFrame
  waitingBeacon : Option (Fin 4)
  flapCount : Nat
  flapWindow : Countdown
  holddownStep : Nat
  holddown : Countdown
  steady : Elapsed
  capture : Option Capture
  captureCount : BitVec 16
  presentRequest : Option Nat
  deriving DecidableEq, Repr

/-- What the part puts on a data line (R68, R91, R105, R107, R111). -/
inductive LineOut where
  | control (port : Port) (frame : ControlFrame)
  | beacon (port : Port) (count : Fin 4)
  | dataFrame (port : Port) (data : DataFrame) (congestion : Bool)
  | abort (port : Port)
  | breakBegin (port : Port)
  | breakEnd (port : Port)
  deriving DecidableEq, Repr

/-! ### Measurement Engine (chapter 8) -/

/-- The origin of a measurement request (R134). -/
inductive Origin where
  | recovery
  | host
  deriving DecidableEq, Repr

/-- A measurement request (R134); `id` is the number of its filing, by which a result names the request
it answers (R135). -/
structure MeasureRequest where
  id : Nat
  port : Port
  origin : Origin
  filed : LinkState
  deriving DecidableEq, Repr

/-- The request in progress, the time left of its 2 ms, and whether line-good was no at any time of it
(R137, R138). -/
structure InProgress where
  request : MeasureRequest
  left : Nat
  lineBad : Bool
  deriving DecidableEq, Repr

/-- The Measurement Engine (R134); MEASURING exactly while `inProgress` holds a request. -/
structure Measurement where
  inProgress : Option InProgress
  recovery : List MeasureRequest
  host : List MeasureRequest
  offset : Int
  filed : Nat
  deriving DecidableEq, Repr

/-! ### Billing Unit (chapter 9) -/

/-- The billing state (R145). -/
inductive BillingState where
  | stopped
  | running
  | held
  deriving DecidableEq, Repr

/-- The tick select (R148). -/
inductive TickSelect where
  | ms1
  | ms10
  | ms100
  | s1
  deriving DecidableEq, Repr

/-- The twelve open meters (Table 9-2). -/
structure Meters where
  openingResident : BitVec 64
  admittedBytes : BitVec 64
  admittedCopies : BitVec 64
  deliveredBytes : BitVec 64
  deliveredCopies : BitVec 64
  flushedBytes : BitVec 64
  refusedCongestion : BitVec 64
  refusedPolicy : BitVec 64
  refusedUnavailable : BitVec 64
  markedCopies : BitVec 64
  pacedUs : BitVec 64
  cellTicks : BitVec 64
  deriving DecidableEq, Repr

/-- The flags of a billing record (Table 9-3). -/
structure RecordFlags where
  locked : Bool
  late : Bool
  final : Bool
  removed : Bool
  deriving DecidableEq, Repr

/-- A billing record (Table 9-3). -/
structure BillingRecord where
  epoch : BitVec 32
  tenant : TenantId
  flags : RecordFlags
  boundPorts : Nat
  heldSet : BitVec 8
  meters : Meters
  closingResident : BitVec 64
  deriving DecidableEq, Repr

/-- The Billing Unit (Table 9-1). -/
structure Billing where
  state : BillingState
  overdue : Bool
  epoch : BitVec 32
  meters : Vector (Option Meters) 64
  tickSelect : TickSelect
  length : Nat
  count : Nat
  tickElapsed : Nat
  staged : Option (TickSelect × Nat)
  queue : List BillingRecord
  lock : Bool
  deriving DecidableEq, Repr

/-! ### Management Link Controller (chapter 10) -/

/-- The kinds of restart (R167). -/
inductive RestartCause where
  | power
  | pin
  | command
  deriving DecidableEq, Repr

/-- The epoch_open field of the restart record (R167). -/
inductive EpochOpen where
  | no
  | yes
  | unknown
  deriving DecidableEq, Repr

/-- The restart record (R167). -/
structure RestartRecord where
  cause : RestartCause
  epochOpen : EpochOpen
  recordsLost : Nat
  deriving DecidableEq, Repr

/-- The outcome of a host measurement: DONE with the margin and the changed indication, or WITHDRAWN
(R139, R140). -/
inductive MeasureOutcome where
  | done (margin : Byte) (changed : Bool)
  | withdrawn
  deriving DecidableEq, Repr

/-- A result in the MEASURE-DONE detail (R139). -/
structure MeasureResult where
  port : Port
  outcome : MeasureOutcome
  deriving DecidableEq, Repr

/-- The detail of EPOCH-CLOSED (Table 10-3). -/
structure EpochClosed where
  epoch : BitVec 32
  flags : RecordFlags
  closes : Nat
  deriving DecidableEq, Repr

/-- The detail of LEARN-FULL: the tenants refused by their limit and by a full bucket (Table 10-3). -/
structure LearnFull where
  limit : Vector Bool 64
  bucket : Vector Bool 64
  deriving DecidableEq, Repr

/-- The pending flags with their details (R165): a flag is set where its detail stands. -/
structure Notices where
  ready : Option RestartRecord
  fault : Option PortSet
  portChange : Option PortSet
  billOverdue : Option (BitVec 32 × Nat)
  epochClosed : Option EpochClosed
  measureDone : Option (List MeasureResult)
  relief : Option PortSet
  stationMove : Option (SegmentId × StationAddr)
  learnFull : Option LearnFull
  quiet : Option PortSet
  deriving DecidableEq, Repr

/-- A place for an unanswered request (R162): its kind and tag, and its reply's body once built. -/
structure Place where
  kind : Byte
  tag : Byte
  reply : Option (List Byte)
  deriving DecidableEq, Repr

/-- Where the frame being sent came from (R164). -/
inductive SendSource where
  | overflow
  | place
  | notice
  deriving DecidableEq, Repr

/-- A message of the envelope of Table 10-1, marker, length and check left to its encoding. -/
structure Message where
  kind : Byte
  tag : Byte
  body : List Byte
  deriving DecidableEq, Repr

/-- The frame the transmitter is sending (R164). -/
structure Sending where
  source : SendSource
  message : Message
  deriving DecidableEq, Repr

/-- The Management Link Controller (R161, R162, R164 to R167, R169). `rx` holds the frame in reception
from its marker on, `gap` the time since its last byte; neither holds anything while hunting. -/
structure Link where
  rx : List Byte
  gap : Elapsed
  places : List Place
  overflow : Option Message
  sending : Option Sending
  notices : Notices
  noticeCount : BitVec 8
  mask : BitVec 16
  linkErrors : BitVec 32
  restartRecord : RestartRecord
  inRestart : Bool
  restartHanded : Bool
  restartLineHigh : Bool
  deriving DecidableEq, Repr

/-! ### The whole part -/

/-- The state of the part. `lineOut`, `freeCount` and `pending` are the model's own: what the part has
put on its data lines, the counter of free values, and the commands that wait, first in first out. -/
structure State where
  directory : Directory
  stations : StationTable
  forwarding : Forwarding
  buffer : Buffer
  relief : Relief
  ports : Vector PortUnit 40
  measurement : Measurement
  billing : Billing
  link : Link
  now : BitVec 48
  lineOut : List LineOut
  freeCount : Nat
  pending : List Instr
  deriving DecidableEq, Repr

/-- Reasons a command stops the part: none. Every refusal of the spec is a reply status, and a line
fault is an effect on state (R114), so no command faults; an empty type is safe. -/
inductive Fault where
  deriving DecidableEq, Repr

/-- Reasons the model refuses a command. -/
inductive Refusal where
  /-- Raised by `exec` alone, for a row of the table that has no meaning yet; no row is one. Safe. -/
  | notModelled (mnemonic : String)
  deriving DecidableEq, Repr

/-! ### Values after a restart -/

/-- Table 1-2, value after restart. -/
def Tenant.initial (t : TenantId) : Tenant :=
  { defined := t.val == 0, heldSet := 0, quotaCells := 16384, stationLimit := 4096, retired := false }

/-- R1, R7, R11: the directory after a restart. -/
def Directory.initial : Directory :=
  { tenants := Vector.ofFn Tenant.initial
    segments := Vector.replicate 1024 none
    applied := Vector.replicate 32 none
    staged := Vector.replicate 32 none }

/-- R18, R20, R27: the station table after a restart. -/
def StationTable.initial : StationTable :=
  { entries := [], sweepPeriod := 300, sweepElapsed := 0, refusedLimit := Vector.replicate 64 0,
    refusedBucket := 0, moves := 0 }

/-- R47, R50: the forwarding engine after a restart. -/
def Forwarding.initial : Forwarding :=
  { groupA := ⟨0, 0⟩, groupB := ⟨0, 0⟩, filtered := Vector.replicate 40 0,
    refusedPolicy := Vector.replicate 40 0, refusedUnavailable := Vector.replicate 40 0 }

/-- R58 to R60, R67: the buffer after a restart. -/
def Buffer.initial : Buffer :=
  { records := [], held := Vector.replicate 40 [], bulk := Vector.replicate 40 [],
    streak := Vector.replicate 40 0 }

/-- Table 5-2, after restart. -/
def ReliefSettings.initial : ReliefSettings :=
  { bulkLimit := 2048, markThreshold := 512, heldLimit := 2048, paceOn := 768, paceOff := 384,
    share := 64, pauseTime := 200, releaseTime := 100 }

/-- R86: a generator after a restart. -/
def Generator.initial : Generator :=
  { state := .idle, timer := none, pausesSent := 0, releasesSent := 0 }

/-- R79, R81, R83, R85, R86: the relief controller after a restart. -/
def Relief.initial : Relief :=
  { settings := ReliefSettings.initial, congested := Vector.replicate 40 false,
    contributors := Vector.replicate 40 PortSet.empty, paced := PortSet.empty,
    generators := Vector.replicate 40 Generator.initial }

/-- Table 6-1, default: quiet_ms on station ports, beacon_ms and miss_limit on trunk ports. -/
def PortConfig.initial (p : Port) : PortConfig :=
  { enabled := false, defaultPriority := 0, headroomCells := 48, errorWindowMs := 100,
    errorThreshold := 16, qualifyMs := 20, breakMs := 4,
    quietMs := if p.val < 32 then 5000 else 0,
    beaconMs := if p.val < 32 then 0 else 10,
    missLimit := if p.val < 32 then 0 else 3,
    marginThreshold := 96, holddownBaseMs := 50, flapLimit := 5, flapWindowS := 60 }

/-- Table 6-2, R116, R117, R125, R126, R129: a Port Unit after a restart. line_good is as the interface
reports it, so it is an argument (log 2). -/
def PortUnit.initial (lineGood : Bool) (p : Port) : PortUnit :=
  { config := PortConfig.initial p, link := .disabled, lineGood := lineGood, latched := 0,
    errorCount := 0, errorWindow := none, beaconsSent := 0, beaconsReceived := 0, lastBeacon := none,
    gapCount := 0, rollingCount := 0, beaconTimer := none, reference := none, silence := none,
    quiet := false, quietTimer := none, breakTimer := none, breaksReceived := 0,
    receivedBreak := none, qualification := none, peerPause := none, spoof := 0, reception := none,
    waitingControl := none, waitingBeacon := none, flapCount := 0, flapWindow := none,
    holddownStep := 0, holddown := none, steady := none, capture := none, captureCount := 0,
    presentRequest := none }

/-- R134: the measurement engine after a restart. -/
def Measurement.initial : Measurement :=
  { inProgress := none, recovery := [], host := [], offset := 0, filed := 0 }

/-- R159: the Billing Unit after a restart. -/
def Billing.initial : Billing :=
  { state := .stopped, overdue := false, epoch := 0, meters := Vector.replicate 64 none,
    tickSelect := .s1, length := 3600, count := 0, tickElapsed := 0, staged := none, queue := [],
    lock := false }

/-- R165: no flag pending. -/
def Notices.clear : Notices :=
  { ready := none, fault := none, portChange := none, billOverdue := none, epochClosed := none,
    measureDone := none, relief := none, stationMove := none, learnFull := none, quiet := none }

/-- R161, R162, R164 to R167: the controller at a restart, the part still in restart. READY is pending
with the restart record; every bit of the mask is on. -/
def Link.initial (record : RestartRecord) (lineHigh : Bool) : Link :=
  { rx := [], gap := none, places := [], overflow := none, sending := none,
    notices := { Notices.clear with ready := some record },
    noticeCount := 0, mask := 0xFFFF, linkErrors := 0, restartRecord := record, inRestart := true,
    restartHanded := false, restartLineHigh := lineHigh }

/-- The part at a restart, still in restart (R167): every block at its value after a restart. What the
line interfaces report, the record of the lines, the free-value counter and the waiting commands are
not the part's own and pass through. -/
def State.restarted (record : RestartRecord) (lineHigh : Bool) (lineGood : Vector Bool 40)
    (lineOut : List LineOut) (freeCount : Nat) (pending : List Instr) : State :=
  { directory := Directory.initial
    stations := StationTable.initial
    forwarding := Forwarding.initial
    buffer := Buffer.initial
    relief := Relief.initial
    ports := Vector.ofFn fun p => PortUnit.initial lineGood[p] p
    measurement := Measurement.initial
    billing := Billing.initial
    link := Link.initial record lineHigh
    now := 0
    lineOut := lineOut
    freeCount := freeCount
    pending := pending }

/-- The machine right after reset: a power restart that the part has just left (R167). READY was pending
with tag 0 and the free transmitter took it at that same event (R164, R165), so it is the frame being
sent and the notice count is 1 (log 3). No line interface has reported line-good yet (log 2). -/
def State.reset : State :=
  let s := State.restarted ⟨.power, .unknown, 0⟩ true (Vector.replicate 40 false) [] 0 []
  { s with
    link := { s.link with
      inRestart := false
      notices := Notices.clear
      noticeCount := 1
      sending := some { source := .notice, message := { kind := 0x40, tag := 0, body := [1, 2, 0, 0] } } } }

end Sys2Proof.Machine
end

