-- ==== Sys2Proof/Machine/Operands.lean ====
section
/-! DEFINITION. The operand forms: fields read from a request's body and fields written into replies
and notices, with their codes (R170, Tables 10-2 to 10-11). -/

namespace Sys2Proof.Machine

open Sys2Proof

/-! ### Numbers and sets on the link (R170) -/

/-- The number that bytes carry, most significant first. -/
def beNat (bytes : List Byte) : Nat :=
  bytes.foldl (fun acc b => acc * 256 + b.toNat) 0

/-- A number as `width` bytes, most significant first. -/
def bytesOf : Nat → Nat → List Byte
  | 0, _ => []
  | width + 1, v => BitVec.ofNat 8 (v / 256 ^ width) :: bytesOf width v

/-- The field of `width` bytes at offset `i` of a body. -/
def field (body : List Byte) (i width : Nat) : Nat :=
  beNat ((body.drop i).take width)

/-- The station address at offset `i` of a body, in its written order. -/
def addressAt (body : List Byte) (i : Nat) : StationAddr :=
  BitVec.ofNat 48 (field body i 6)

/-- A yes/no field. -/
def yesNo (b : Bool) : Nat := if b then 1 else 0

/-- The number in which bit i is set for member i. -/
def setNat {n : Nat} (member : Fin n → Bool) : Nat :=
  ((List.finRange n).map fun i => if member i then 2 ^ i.val else 0).sum

/-- A port set as 5 bytes. -/
def portSetBytes (s : PortSet) : List Byte :=
  bytesOf 5 (setNat fun p => s[p])

/-! ### Ranges of operands -/

/-- A port number of a request, refused above 39. -/
def portOf? (n : Nat) : Option Port :=
  if h : n < 40 then some ⟨n, h⟩ else none

/-- A segment number of a request, refused outside 1 to 1023. -/
def segmentOf? (n : Nat) : Option SegmentId :=
  if h : n < 1024 then (if n = 0 then none else some ⟨n, h⟩) else none

/-- A tenant number of a request, refused above 63. -/
def tenantOf? (n : Nat) : Option TenantId :=
  if h : n < 64 then some ⟨n, h⟩ else none

/-- Whether a port is a station port (section 0.7). -/
def isStation (p : Port) : Bool := p.val < 32

/-- The station port of that number, if it is one. -/
def stationOf? (p : Port) : Option StationPort :=
  if h : p.val < 32 then some ⟨p.val, h⟩ else none

/-- A station port as a port. -/
def asPort (p : StationPort) : Port := ⟨p.val, by have := p.isLt; omega⟩

/-- Whether an address is a group address: the lowest bit of its first byte (section 0.7). -/
def isGroupAddress (a : StationAddr) : Bool := a.getLsbD 40

/-- The six bytes of an address, each a number 0 to 255, added (R19, R48). -/
def addressByteSum (a : StationAddr) : Nat :=
  ((bytesOf 6 a.toNat).map BitVec.toNat).sum

/-! ### Status codes (Table 10-2) -/

/-- The reply statuses (Table 0-2). -/
inductive Status where
  | ok
  | accepted
  | staged
  | badKind
  | badLength
  | value
  | state
  | busy
  | full
  | locked
  | conflict
  | notFound
  deriving DecidableEq, Repr

/-- Table 10-2. -/
def Status.code : Status → Byte
  | .ok => 0x00
  | .accepted => 0x01
  | .staged => 0x02
  | .badKind => 0x10
  | .badLength => 0x11
  | .value => 0x12
  | .state => 0x13
  | .busy => 0x14
  | .full => 0x15
  | .locked => 0x16
  | .conflict => 0x17
  | .notFound => 0x18

/-- An owner's outcome: the status and, for OK, ACCEPTED and STAGED, the rest of the reply's body. -/
structure Answer where
  status : Status
  rest : List Byte
  deriving DecidableEq, Repr

/-- A reply's body: the status byte, then the rest (R163). -/
def Answer.body (a : Answer) : List Byte := a.status.code :: a.rest

/-- A refusal: the state unchanged, the status byte alone (R163). -/
def refuse (st : Status) (s : State) : State × Answer := (s, ⟨st, []⟩)

/-! ### Enumeration codes (Table 10-8) -/

def LinkState.code : LinkState → Nat
  | .disabled => 0
  | .down => 1
  | .probing => 2
  | .up => 3
  | .fenced => 4
  | .barred => 5

/-- The rank of Table 6-6. -/
def FaultCause.code : FaultCause → Nat
  | .lineLost => 2
  | .peerBreak => 3
  | .silent => 4
  | .errorBurst => 5
  | .marginLow => 6

def Group.code : Group → Nat
  | .a => 1
  | .b => 2

/-- group: A 1, B 2. -/
def groupOf? (n : Nat) : Option Group :=
  if n = 1 then some .a else if n = 2 then some .b else none

/-- trunk_group: none 0, A 1, B 2; the outer `none` is a code outside the three. -/
def trunkGroupOf? (n : Nat) : Option (Option Group) :=
  if n = 0 then some none else (groupOf? n).map some

def Target.code : Target → Nat
  | .port p => p.val
  | .group .a => 64
  | .group .b => 65

/-- A request's station target: a station port, group A or group B (R34, check 1). -/
def targetOf? (n : Nat) : Option Target :=
  if h : n < 32 then some (.port ⟨n, h⟩)
  else if n = 64 then some (.group .a)
  else if n = 65 then some (.group .b)
  else none

def EntryKind.code : EntryKind → Nat
  | .learned _ => 0
  | .fixed => 1

/-- seen: 0 clear, 1 set, 2 absent (Table 10-5). -/
def EntryKind.seenCode : EntryKind → Nat
  | .learned seen => yesNo seen
  | .fixed => 2

def GeneratorState.code : GeneratorState → Nat
  | .idle => 0
  | .pausing => 1
  | .releasing => 2

def BillingState.code : BillingState → Nat
  | .stopped => 0
  | .running => 1
  | .held => 2

def TickSelect.code : TickSelect → Nat
  | .ms1 => 0
  | .ms10 => 1
  | .ms100 => 2
  | .s1 => 3

def tickSelectOf? (n : Nat) : Option TickSelect :=
  if n = 0 then some .ms1 else if n = 1 then some .ms10
  else if n = 2 then some .ms100 else if n = 3 then some .s1 else none

/-- The length of a tick in microseconds (R148). -/
def TickSelect.micros : TickSelect → Nat
  | .ms1 => 1000
  | .ms10 => 10000
  | .ms100 => 100000
  | .s1 => 1000000

def RestartCause.code : RestartCause → Nat
  | .power => 1
  | .pin => 2
  | .command => 3

def EpochOpen.code : EpochOpen → Nat
  | .no => 0
  | .yes => 1
  | .unknown => 2

/-! ### Records -/

/-- The restart record, 4 bytes. -/
def RestartRecord.bytes (r : RestartRecord) : List Byte :=
  bytesOf 1 r.cause.code ++ bytesOf 1 r.epochOpen.code ++ bytesOf 2 r.recordsLost

/-- The flags byte of a billing record (Table 10-6). -/
def RecordFlags.code (f : RecordFlags) : Nat :=
  yesNo f.locked + 2 * yesNo f.late + 4 * yesNo f.final + 8 * yesNo f.removed

/-- The twelve meters in the order of Table 10-6. -/
def Meters.list (m : Meters) : List (BitVec 64) :=
  [m.openingResident, m.admittedBytes, m.admittedCopies, m.deliveredBytes, m.deliveredCopies,
    m.flushedBytes, m.refusedCongestion, m.refusedPolicy, m.refusedUnavailable, m.markedCopies,
    m.pacedUs, m.cellTicks]

/-- The meters, 8 bytes each. -/
def Meters.bytes (m : Meters) : List Byte :=
  m.list.flatMap fun v => bytesOf 8 v.toNat

/-- A billing record, 112 bytes (Table 10-6). -/
def BillingRecord.bytes (r : BillingRecord) : List Byte :=
  bytesOf 4 r.epoch.toNat ++ bytesOf 1 r.tenant.val ++ bytesOf 1 r.flags.code ++
    bytesOf 1 r.boundPorts ++ bytesOf 1 r.heldSet.toNat ++ r.meters.bytes ++
    bytesOf 8 r.closingResident.toNat

/-- The configured record, 20 bytes (Table 10-9). -/
def PortConfig.bytes (c : PortConfig) : List Byte :=
  bytesOf 1 (yesNo c.enabled) ++ bytesOf 1 c.defaultPriority ++ bytesOf 1 c.headroomCells ++
    bytesOf 2 c.errorWindowMs ++ bytesOf 2 c.errorThreshold ++ bytesOf 1 c.qualifyMs ++
    bytesOf 1 c.breakMs ++ bytesOf 2 c.quietMs ++ bytesOf 2 c.beaconMs ++ bytesOf 1 c.missLimit ++
    bytesOf 1 c.marginThreshold ++ bytesOf 2 c.holddownBaseMs ++ bytesOf 1 c.flapLimit ++
    bytesOf 2 c.flapWindowS

/-- A fault capture, 18 bytes (Table 10-11). -/
def Capture.bytes (c : Capture) : List Byte :=
  bytesOf 1 c.cause.code ++ bytesOf 6 c.timestamp.toNat ++ bytesOf 1 c.stateAtFault.code ++
    bytesOf 2 c.errorCount ++ bytesOf 1 c.flapCount ++ bytesOf 1 (yesNo c.barred) ++
    bytesOf 2 c.copiesFlushed ++ bytesOf 2 c.copiesRehomed ++ bytesOf 1 (yesNo c.unread) ++
    bytesOf 1 (yesNo c.overwritten)

/-- The eight relief settings, 2 bytes each, in the order of Table 5-2. -/
def ReliefSettings.bytes (r : ReliefSettings) : List Byte :=
  bytesOf 2 r.bulkLimit ++ bytesOf 2 r.markThreshold ++ bytesOf 2 r.heldLimit ++ bytesOf 2 r.paceOn ++
    bytesOf 2 r.paceOff ++ bytesOf 2 r.share ++ bytesOf 2 r.pauseTime ++ bytesOf 2 r.releaseTime

/-- The eight settings of a RELIEF-SET body (Table 10-4). -/
def reliefSettingsOf (body : List Byte) : ReliefSettings :=
  { bulkLimit := field body 0 2, markThreshold := field body 2 2, heldLimit := field body 4 2,
    paceOn := field body 6 2, paceOff := field body 8 2, share := field body 10 2,
    pauseTime := field body 12 2, releaseTime := field body 14 2 }

/-- The offset of LINE-CALIBRATE, one byte in two's complement (R170). -/
def offsetOf (body : List Byte) : Int := (body.getD 0 0).toInt

/-! ### Fields of the configured record (Table 6-1) -/

/-- The fields in the order of Table 6-1. -/
inductive ConfigField where
  | enabled
  | defaultPriority
  | headroomCells
  | errorWindowMs
  | errorThreshold
  | qualifyMs
  | breakMs
  | quietMs
  | beaconMs
  | missLimit
  | marginThreshold
  | holddownBaseMs
  | flapLimit
  | flapWindowS
  deriving DecidableEq, Repr

/-- Field numbers 1 to 14 in the order of Table 6-1 (Table 10-4). -/
def configFieldOf? : Nat → Option ConfigField
  | 1 => some .enabled
  | 2 => some .defaultPriority
  | 3 => some .headroomCells
  | 4 => some .errorWindowMs
  | 5 => some .errorThreshold
  | 6 => some .qualifyMs
  | 7 => some .breakMs
  | 8 => some .quietMs
  | 9 => some .beaconMs
  | 10 => some .missLimit
  | 11 => some .marginThreshold
  | 12 => some .holddownBaseMs
  | 13 => some .flapLimit
  | 14 => some .flapWindowS
  | _ => none

/-- The range of a field (Table 6-1). -/
def ConfigField.inRange (f : ConfigField) (v : Nat) : Bool :=
  match f with
  | .enabled => v ≤ 1
  | .defaultPriority => v ≤ 7
  | .headroomCells => v ≤ 128
  | .errorWindowMs => 1 ≤ v && v ≤ 1000
  | .errorThreshold => 1 ≤ v && v ≤ 65535
  | .qualifyMs => 1 ≤ v && v ≤ 100
  | .breakMs => 1 ≤ v && v ≤ 16
  | .quietMs => 1 ≤ v && v ≤ 60000
  | .beaconMs => 1 ≤ v && v ≤ 1000
  | .missLimit => 2 ≤ v && v ≤ 15
  | .marginThreshold => v ≤ 255
  | .holddownBaseMs => 10 ≤ v && v ≤ 1000
  | .flapLimit => 2 ≤ v && v ≤ 15
  | .flapWindowS => 1 ≤ v && v ≤ 3600

/-- Whether a port's record has a field: quiet_ms on station ports alone, beacon_ms and miss_limit on
trunk ports alone; default_priority on both (R98). -/
def ConfigField.onPort (f : ConfigField) (p : Port) : Bool :=
  match f with
  | .quietMs => isStation p
  | .beaconMs => !isStation p
  | .missLimit => !isStation p
  | _ => true

/-- A record with one field written. -/
def PortConfig.write (c : PortConfig) (f : ConfigField) (v : Nat) : PortConfig :=
  match f with
  | .enabled => { c with enabled := v == 1 }
  | .defaultPriority => { c with defaultPriority := v }
  | .headroomCells => { c with headroomCells := v }
  | .errorWindowMs => { c with errorWindowMs := v }
  | .errorThreshold => { c with errorThreshold := v }
  | .qualifyMs => { c with qualifyMs := v }
  | .breakMs => { c with breakMs := v }
  | .quietMs => { c with quietMs := v }
  | .beaconMs => { c with beaconMs := v }
  | .missLimit => { c with missLimit := v }
  | .marginThreshold => { c with marginThreshold := v }
  | .holddownBaseMs => { c with holddownBaseMs := v }
  | .flapLimit => { c with flapLimit := v }
  | .flapWindowS => { c with flapWindowS := v }

/-- A record with several fields written. -/
def PortConfig.writeAll (c : PortConfig) (pairs : List (ConfigField × Nat)) : PortConfig :=
  pairs.foldl (fun c fv => c.write fv.1 fv.2) c

/-- The fourteen fields of the configured record at offset 1 of a PORT-SET body (Table 10-9), less those
the port's kind lacks (R100). -/
def portSetPairs (p : Port) (body : List Byte) : List (ConfigField × Nat) :=
  [(ConfigField.enabled, field body 1 1), (.defaultPriority, field body 2 1),
    (.headroomCells, field body 3 1), (.errorWindowMs, field body 4 2),
    (.errorThreshold, field body 6 2), (.qualifyMs, field body 8 1), (.breakMs, field body 9 1),
    (.quietMs, field body 10 2), (.beaconMs, field body 12 2), (.missLimit, field body 14 1),
    (.marginThreshold, field body 15 1), (.holddownBaseMs, field body 16 2),
    (.flapLimit, field body 18 1), (.flapWindowS, field body 19 2)].filter fun fv => fv.1.onPort p

/-- The pairs of a PORT-ADJUST body after its port byte, three bytes a pair (Table 10-4); `none` where a
field number is none of 1 to 14. -/
def adjustPairs : List Byte → Option (List (ConfigField × Nat))
  | f :: hi :: lo :: rest =>
    match configFieldOf? f.toNat, adjustPairs rest with
    | some fld, some more => some ((fld, beNat [hi, lo]) :: more)
    | _, _ => none
  | _ => some []

/-- The value a list of pairs gives a field, if it names it. -/
def pairValue (pairs : List (ConfigField × Nat)) (f : ConfigField) : Option Nat :=
  (pairs.find? fun fv => fv.1 == f).map Prod.snd

/-! ### Body lengths (Table 10-4) -/

/-- PORT-ADJUST's lengths: 4 + 3k for k from 0 to 13. -/
def adjustLength (n : Nat) : Bool := 4 ≤ n && n ≤ 43 && (n - 4) % 3 == 0

/-- The body lengths a request kind allows; `none` where the kind is no request kind (Table 10-4, R163). -/
def lengthAllowed? (kind : Byte) (n : Nat) : Option Bool :=
  match kind.toNat with
  | 0x01 => some (n == 6)
  | 0x02 => some (n == 1)
  | 0x03 => some (n == 1)
  | 0x04 => some (n == 4)
  | 0x05 => some (n == 4)
  | 0x06 => some (n == 2)
  | 0x08 => some (n == 9)
  | 0x09 => some (n == 8)
  | 0x0A => some (n == 8)
  | 0x0B => some (n == 2)
  | 0x0C => some (n == 0 || n == 2)
  | 0x10 => some (n == 2)
  | 0x11 => some (n == 0)
  | 0x14 => some (n == 0)
  | 0x18 => some (n == 16)
  | 0x19 => some (n == 0)
  | 0x20 => some (n == 21)
  | 0x21 => some (adjustLength n)
  | 0x22 => some (n == 1)
  | 0x23 => some (n == 1)
  | 0x24 => some (n == 1)
  | 0x28 => some (n == 1)
  | 0x29 => some (n == 1)
  | 0x30 => some (n == 0)
  | 0x31 => some (n == 0)
  | 0x32 => some (n == 0)
  | 0x33 => some (n == 0)
  | 0x34 => some (n == 0)
  | 0x35 => some (n == 3)
  | 0x36 => some (n == 1)
  | 0x37 => some (n == 0)
  | 0x38 => some (n == 0 || n == 1)
  | 0x3C => some (n == 2)
  | 0x3D => some (n == 0)
  | 0x3E => some (n == 0)
  | _ => none

end Sys2Proof.Machine
end

