-- ==== Sys2Proof/Machine/Flags.lean ====
section
/-! DEFINITION. The notice flags with their details (R165), and the conditions of the health code
(R115, R116). -/

namespace Sys2Proof.Machine

open Sys2Proof

/-! ### Access to a port unit -/

/-- The state with the unit of port `p` replaced by `f` of it. -/
def modPort (p : Port) (f : PortUnit → PortUnit) (s : State) : State :=
  { s with ports := s.ports.set p (f s.ports[p]) }

/-- The state with the notices replaced by `f` of them. -/
def modNotices (f : Notices → Notices) (s : State) : State :=
  { s with link := { s.link with notices := f s.link.notices } }

/-! ### Raising flags (R165, Table 10-3) -/

/-- A port joins the port set of a flag, which is then set. -/
def joinPort (detail : Option PortSet) (p : Port) : Option PortSet :=
  some ((detail.getD PortSet.empty).set p true)

/-- R131: FAULT, the fenced port joins. -/
def raiseFault (p : Port) : State → State :=
  modNotices fun n => { n with fault := joinPort n.fault p }

/-- R131: PORT-CHANGE, the port joins. -/
def raisePortChange (p : Port) : State → State :=
  modNotices fun n => { n with portChange := joinPort n.portChange p }

/-- R110: QUIET, the port joins. -/
def raiseQuiet (p : Port) : State → State :=
  modNotices fun n => { n with quiet := joinPort n.quiet p }

/-- R82: RELIEF, the held queue joins. -/
def raiseRelief (p : Port) : State → State :=
  modNotices fun n => { n with relief := joinPort n.relief p }

/-- R152: BILL-OVERDUE with the epoch number and the places needed, as at the raising (log 23). -/
def raiseBillOverdue (epoch : BitVec 32) (needed : Nat) : State → State :=
  modNotices fun n => { n with billOverdue := some (epoch, needed) }

/-- R151: EPOCH-CLOSED; a later close replaces the epoch and flags, and the count of closes stops at
255 (Table 10-3). -/
def raiseEpochClosed (epoch : BitVec 32) (flags : RecordFlags) : State → State :=
  modNotices fun n =>
    { n with
      epochClosed := some
        { epoch := epoch, flags := flags,
          closes := match n.epochClosed with
            | some d => min 255 (d.closes + 1)
            | none => 1 } }

/-- The results with `r` in its port's place, in ascending port order (R139). -/
def placeResult (r : MeasureResult) : List MeasureResult → List MeasureResult
  | [] => [r]
  | x :: xs =>
    if r.port.val < x.port.val then r :: x :: xs
    else if r.port = x.port then r :: xs
    else x :: placeResult r xs

/-- R139, R140: MEASURE-DONE; a result replaces the port's earlier one. -/
def raiseMeasureDone (r : MeasureResult) : State → State :=
  modNotices fun n => { n with measureDone := some (placeResult r (n.measureDone.getD [])) }

/-- R24: STATION-MOVE with the segment and address of the latest move. -/
def raiseStationMove (segment : SegmentId) (a : StationAddr) : State → State :=
  modNotices fun n => { n with stationMove := some (segment, a) }

/-- No tenant refused. -/
def LearnFull.empty : LearnFull := ⟨Vector.replicate 64 false, Vector.replicate 64 false⟩

/-- R23: LEARN-FULL naming the tenant and the cause "limit". -/
def raiseLearnFullLimit (t : TenantId) : State → State :=
  modNotices fun n =>
    let d := n.learnFull.getD LearnFull.empty
    { n with learnFull := some { d with limit := d.limit.set t true } }

/-- R23: LEARN-FULL naming the tenant and the cause "bucket". -/
def raiseLearnFullBucket (t : TenantId) : State → State :=
  modNotices fun n =>
    let d := n.learnFull.getD LearnFull.empty
    { n with learnFull := some { d with bucket := d.bucket.set t true } }

/-! ### Conditions of the health code (Table 6-6) -/

/-- Whether the port is FENCED by a fault of that cause. -/
def fencedBy (u : PortUnit) (c : FaultCause) : Bool :=
  u.link == .fenced && (u.capture.map Capture.cause) == some c

/-- Whether the condition of that rank, 1 to 8, is current (R115). -/
def conditionCurrent (u : PortUnit) (paced : Bool) (rank : Nat) : Bool :=
  match rank with
  | 1 => u.link == .barred
  | 2 => (!u.lineGood && (u.link == .down || u.link == .probing || u.link == .fenced)) ||
      fencedBy u .lineLost
  | 3 => fencedBy u .peerBreak
  | 4 => fencedBy u .silent
  | 5 => fencedBy u .errorBurst
  | 6 => fencedBy u .marginLow
  | 7 => paced
  | 8 => u.quiet
  | _ => false

/-- The current conditions, bit r − 1 for rank r (Table 10-8). -/
def currentConditions (u : PortUnit) (paced : Bool) : BitVec 8 :=
  BitVec.ofNat 8 (setNat fun i : Fin 8 => conditionCurrent u paced (i.val + 1))

/-- The rank of the highest-ranked condition of a set, NORMAL (9) where there is none. -/
def highestRank (conditions : BitVec 8) : Nat :=
  match (List.finRange 8).find? fun i => conditions.getLsbD i.val with
  | some i => i.val + 1
  | none => 9

/-- R115: the health code, over the current and the latched conditions. -/
def healthCode (u : PortUnit) (paced : Bool) : Nat :=
  highestRank (currentConditions u paced ||| u.latched)

/-- R116: the conditions that are current now and were not before the event are latched. LINE_LOST is so
latched at an enable that finds line_good no (R115, log 31). -/
def latchArisen (before after : State) : State :=
  { after with
    ports := Vector.ofFn fun p : Port =>
      let u := after.ports[p]
      let arisen := currentConditions u after.relief.paced[p] &&&
        ~~~ currentConditions before.ports[p] before.relief.paced[p]
      { u with latched := u.latched ||| arisen } }

end Sys2Proof.Machine
end

