-- ==== Sys2Proof/Machine/Ops.lean ====
section
/-! DEFINITION. The figures the blocks report, computed from the state that determines them (log 18),
and the small named operations the families share. -/

namespace Sys2Proof.Machine

open Sys2Proof

/-- A vector with one element replaced by `f` of it. -/
def updAt {α : Type} {n : Nat} (v : Vector α n) (i : Fin n) (f : α → α) : Vector α n :=
  v.set i (f v[i])

/-- Milliseconds in microseconds. -/
def msToUs (ms : Nat) : Nat := ms * 1000

/-- Seconds in microseconds. -/
def sToUs (secs : Nat) : Nat := secs * 1000000

/-- A number divided and rounded up. -/
def ceilDiv (n d : Nat) : Nat := (n + (d - 1)) / d

/-! ### Buffer figures (chapter 4) -/

/-- R54: the cells of a frame of that length. -/
def cellsOfLength (length : Nat) : Nat := ceilDiv length 256

/-- The stored frame of an id. -/
def frameOf? (b : Buffer) (id : Nat) : Option StoredFrame := b.records.lookup id

/-- The cells of the frame an id names. -/
def cellsOf (b : Buffer) (id : Nat) : Nat := ((frameOf? b id).map StoredFrame.cells).getD 0

/-- R60: the occupancy of a queue, the sum of the cells of the frames it holds copies of. -/
def occupancy (b : Buffer) (q : List CopyEntry) : Nat := (q.map fun c => cellsOf b c.frame).sum

/-- R77: the cells of the frames a queue holds copies of that were received on a port. -/
def cellsFrom (b : Buffer) (q : List CopyEntry) (ingress : Port) : Nat :=
  (q.map fun c =>
    match frameOf? b c.frame with
    | some r => if r.ingress = ingress then r.cells else 0
    | none => 0).sum

/-- The sum of the cells of the records of which `keep` holds. -/
def cellsWhere (b : Buffer) (keep : StoredFrame → Bool) : Nat :=
  (b.records.map fun r => if keep r.2 then r.2.cells else 0).sum

/-- R54: the cells of all COMMON stored frames. -/
def commonInUse (s : State) : Nat := cellsWhere s.buffer fun r => r.storage == .common

/-- R54: the cells of all HEADROOM stored frames. -/
def headroomInUseAll (s : State) : Nat := cellsWhere s.buffer fun r => r.storage == .headroom

/-- R55: the cells of the HEADROOM stored frames received on a port. -/
def headroomInUse (s : State) (p : Port) : Nat :=
  cellsWhere s.buffer fun r => r.storage == .headroom && r.ingress == p

/-- R55: a port's headroom allowance: headroom_cells while the record says enabled, headroom_in_use
while the port is DISABLED. -/
def allowance (s : State) (p : Port) : Nat :=
  if s.ports[p].config.enabled then s.ports[p].config.headroomCells else headroomInUse s p

/-- R54: the sum of the allowances. -/
def reserve (s : State) : Nat := ((List.finRange 40).map (allowance s)).sum

/-- R54: the cells of the pool. -/
def poolCells : Nat := 16384

/-- R54: 16,384 minus reserve. -/
def commonPoolSize (s : State) : Nat := poolCells - reserve s

/-- R54: common pool size minus common in use. -/
def commonFree (s : State) : Nat := commonPoolSize s - commonInUse s

/-- R54: the free cells of the pool. -/
def freeCells (s : State) : Nat := poolCells - commonInUse s - headroomInUseAll s

/-- R61: the cells of a tenant's COMMON stored frames. -/
def tenantCommon (s : State) (t : TenantId) : Nat :=
  cellsWhere s.buffer fun r => r.storage == .common && r.tenant == t

/-- R61: the cells of a tenant's HEADROOM stored frames. -/
def tenantHeadroom (s : State) (t : TenantId) : Nat :=
  cellsWhere s.buffer fun r => r.storage == .headroom && r.tenant == t

/-- The bytes a queue's copies of a tenant's frames hold. -/
def queueBytes (b : Buffer) (t : TenantId) (q : List CopyEntry) : Nat :=
  (q.map fun c =>
    match frameOf? b c.frame with
    | some r => if r.tenant = t then r.length else 0
    | none => 0).sum

/-- R61: resident_bytes, over every copy still in an egress queue. -/
def resident (s : State) (t : TenantId) : Nat :=
  ((List.finRange 40).map fun p =>
    queueBytes s.buffer t s.buffer.held[p] + queueBytes s.buffer t s.buffer.bulk[p]).sum

/-- R59: the copy entries in use. -/
def entriesInUse (b : Buffer) : Nat :=
  ((List.finRange 40).map fun p => b.held[p].length + b.bulk[p].length).sum

/-- R67: whether the port's transmitter is sending a copy. -/
def lineBusy (s : State) (p : Port) : Bool :=
  s.buffer.held[p].any CopyEntry.inTransmission || s.buffer.bulk[p].any CopyEntry.inTransmission

/-! ### Station table figures (chapter 2) -/

/-- R19: the bucket of a key. -/
def bucketOf (segment : SegmentId) (a : StationAddr) : Nat :=
  (segment.val * 37 + addressByteSum a) % 1024

/-- Whether an entry is LEARNED. -/
def StationEntry.isLearned (e : StationEntry) : Bool := e.kind != .fixed

/-- R20: learned_count, the LEARNED entries of a tenant. -/
def learnedCount (s : State) (t : TenantId) : Nat :=
  s.stations.entries.countP fun e => e.isLearned && e.tenant == t

/-- R18: the ways of a bucket that are occupied. -/
def bucketUse (s : State) (bucket : Nat) : Nat :=
  s.stations.entries.countP fun e => bucketOf e.segment e.address == bucket

/-- The entry with a key. -/
def findEntry? (s : State) (segment : SegmentId) (a : StationAddr) : Option StationEntry :=
  s.stations.entries.find? fun e => e.segment == segment && e.address == a

/-! ### Directory figures (chapter 1) -/

/-- The applied binding of a port; a trunk port has none. -/
def appliedBinding (s : State) (p : Port) : Option Binding :=
  match stationOf? p with
  | some q => s.directory.applied[q]
  | none => none

/-- Whether a station port has a staged binding; a trunk port has none (R118, check 1). -/
def hasStaged (s : State) (p : Port) : Bool :=
  match stationOf? p with
  | some q => s.directory.staged[q].isSome
  | none => false

/-- The number of station ports whose applied binding names a tenant (R150). -/
def boundPorts (s : State) (t : TenantId) : Nat :=
  (List.finRange 32).countP fun q => (s.directory.applied[q].map Binding.tenant) == some t

/-- The defined tenants, ascending. -/
def definedTenants (s : State) : List TenantId :=
  (List.finRange 64).filter fun t => s.directory.tenants[t].defined

/-- The number of defined segments a tenant owns (R6). -/
def segmentsOwned (s : State) (t : TenantId) : Nat :=
  s.directory.segments.toList.countP fun g => (g.map Segment.owner) == some t

/-! ### Trunk groups (R49, R50) -/

/-- The bit of a trunk port in a trunk member set. -/
def trunkBit (p : Port) : Nat := p.val - 32

/-- A trunk group's tables. -/
def groupTables (s : State) : Group → TrunkGroup
  | .a => s.forwarding.groupA
  | .b => s.forwarding.groupB

/-- The state with a group's tables replaced by `f` of them. -/
def modGroup (g : Group) (f : TrunkGroup → TrunkGroup) (s : State) : State :=
  match g with
  | .a => { s with forwarding := { s.forwarding with groupA := f s.forwarding.groupA } }
  | .b => { s with forwarding := { s.forwarding with groupB := f s.forwarding.groupB } }

/-- Whether a port belongs to a trunk member set. -/
def inTrunkSet (set : BitVec 8) (p : Port) : Bool := !isStation p && set.getLsbD (trunkBit p)

/-- The group a trunk port is a member of (R50). -/
def groupOfPort (s : State) (p : Port) : Option Group :=
  if inTrunkSet s.forwarding.groupA.members p then some .a
  else if inTrunkSet s.forwarding.groupB.members p then some .b
  else none

/-- The ports of a trunk member set, in ascending port number. -/
def trunkPorts (set : BitVec 8) : List Port := (List.finRange 40).filter (inTrunkSet set)

/-- R49: the member at position h modulo n of a membership in ascending order; none if it is empty. -/
def selectFrom (members : List Port) (h : Fin 256) : Option Port := members[h.val % members.length]?

/-- R49: the member of a group selected for a flow hash. -/
def selectMember (s : State) (g : Group) (h : Fin 256) : Option Port :=
  selectFrom (trunkPorts (groupTables s g).up) h

/-- R49: the member selected for a re-home, the fenced port excluded. -/
def selectMemberExcept (s : State) (g : Group) (h : Fin 256) (excluded : Port) : Option Port :=
  selectFrom ((trunkPorts (groupTables s g).up).filter (· ≠ excluded)) h

/-! ### Reports to the Billing Unit (R143) -/

/-- Meters newly opened (R143). -/
def Meters.opened (residentBytes : Nat) : Meters :=
  { openingResident := BitVec.ofNat 64 residentBytes, admittedBytes := 0, admittedCopies := 0,
    deliveredBytes := 0, deliveredCopies := 0, flushedBytes := 0, refusedCongestion := 0,
    refusedPolicy := 0, refusedUnavailable := 0, markedCopies := 0, pacedUs := 0, cellTicks := 0 }

/-- A report for a tenant: counted in its open meters while billing is RUNNING or HELD, disregarded
while STOPPED (R143). -/
def report (t : TenantId) (f : Meters → Meters) (s : State) : State :=
  if s.billing.state = .stopped then s
  else { s with billing := { s.billing with meters := updAt s.billing.meters t (Option.map f) } }

/-- R69: one copy delivered. -/
def reportDelivered (t : TenantId) (length : Nat) : State → State :=
  report t fun m =>
    { m with
      deliveredBytes := m.deliveredBytes + BitVec.ofNat 64 length
      deliveredCopies := m.deliveredCopies + 1 }

/-- R73: one copy flushed. -/
def reportFlushed (t : TenantId) (length : Nat) : State → State :=
  report t fun m => { m with flushedBytes := m.flushedBytes + BitVec.ofNat 64 length }

/-- R65: the reports of an admission: the copies admitted, marked and refused CONGESTION. -/
def reportAdmission (t : TenantId) (length admitted marked refused : Nat) : State → State :=
  report t fun m =>
    { m with
      admittedBytes := m.admittedBytes + BitVec.ofNat 64 (admitted * length)
      admittedCopies := m.admittedCopies + BitVec.ofNat 64 admitted
      markedCopies := m.markedCopies + BitVec.ofNat 64 marked
      refusedCongestion := m.refusedCongestion + BitVec.ofNat 64 (refused * length) }

/-- R46: a policy refusal. -/
def reportPolicy (t : TenantId) (length : Nat) : State → State :=
  report t fun m => { m with refusedPolicy := m.refusedPolicy + BitVec.ofNat 64 length }

/-- R46: an unavailable refusal. -/
def reportUnavailable (t : TenantId) (length : Nat) : State → State :=
  report t fun m => { m with refusedUnavailable := m.refusedUnavailable + BitVec.ofNat 64 length }

/-- R92: microseconds in PAUSING. -/
def reportPaced (t : TenantId) (us : Nat) : State → State :=
  report t fun m => { m with pacedUs := m.pacedUs + BitVec.ofNat 64 us }

/-- R148: the sample of a tick. -/
def reportCellTicks (t : TenantId) (cells : Nat) : State → State :=
  report t fun m => { m with cellTicks := m.cellTicks + BitVec.ofNat 64 cells }

/-! ### Station table operations -/

/-- The order of entries by key. -/
def keyBefore (e x : StationEntry) : Bool :=
  e.segment.val < x.segment.val ||
    (e.segment == x.segment && e.address.toNat < x.address.toNat)

/-- The entries with `e` in its key's place. -/
def insertEntry (e : StationEntry) : List StationEntry → List StationEntry
  | [] => [e]
  | x :: xs => if keyBefore e x then e :: x :: xs else x :: insertEntry e xs

/-- The state with the entries replaced by `f` of them. -/
def modEntries (f : List StationEntry → List StationEntry) (s : State) : State :=
  { s with stations := { s.stations with entries := f s.stations.entries } }

/-- An entry placed in a free way of its bucket (R23, R34). -/
def placeEntry (e : StationEntry) : State → State := modEntries (insertEntry e)

/-- The entry of a key replaced by `f` of it. -/
def modEntry (segment : SegmentId) (a : StationAddr) (f : StationEntry → StationEntry) :
    State → State :=
  modEntries fun es => es.map fun e => if e.segment == segment && e.address == a then f e else e

/-- The entries of which `gone` holds removed (R20: a removal lowers the learned_count). -/
def removeEntries (gone : StationEntry → Bool) : State → State :=
  modEntries fun es => es.filter fun e => !gone e

/-- R31, R32: the LEARNED entries targeting a port or group removed. -/
def flushTarget (t : Target) : State → State :=
  removeEntries fun e => e.isLearned && e.target == t

/-- R9, R37: the LEARNED entries of a segment removed. -/
def flushSegment (segment : SegmentId) : State → State :=
  removeEntries fun e => e.isLearned && e.segment == segment

/-! ### Line output -/

/-- Something put on a data line. -/
def emit (o : LineOut) (s : State) : State := { s with lineOut := s.lineOut ++ [o] }

end Sys2Proof.Machine
end

