-- ==== Sys2Proof/Machine/Billing.lean ====
section
/-! DEFINITION. The Billing Unit: closes, the epoch timer, and its requests (chapter 9). -/

namespace Sys2Proof.Machine

open Sys2Proof

/-- The state with the Billing Unit replaced by `f` of it. -/
def modBilling (f : Billing → Billing) (s : State) : State := { s with billing := f s.billing }

/-- R145: the largest epoch number. -/
def lastEpoch : BitVec 32 := BitVec.allOnes 32

/-- R150: the places a close needs: one for each defined tenant. -/
def placesNeeded (s : State) : Nat := (definedTenants s).length

/-- R150: the free places of the record queue. -/
def freePlaces (s : State) : Nat := 256 - s.billing.queue.length

/-- R150: whether the queue has room for a close. -/
def hasRoom (s : State) : Bool := placesNeeded s ≤ freePlaces s

/-- R143, R146, R151: every defined tenant's meters open at zero with the tenant's resident_bytes as it
stands; an undefined tenant has none. -/
def openedMeters (s : State) : Vector (Option Meters) 64 :=
  Vector.ofFn fun t : TenantId =>
    if s.directory.tenants[t].defined then some (Meters.opened (resident s t)) else none

/-- R2: a newly defined tenant's meters open at zero while billing runs. -/
def openMetersFor (t : TenantId) (s : State) : State :=
  if s.billing.state = .stopped then s
  else modBilling (fun b => { b with meters := b.meters.set t (some (Meters.opened 0)) }) s

/-- R150: the record of a tenant with those flags, bound ports and closing figure. -/
def recordFor (s : State) (t : TenantId) (flags : RecordFlags) (bound closing : Nat) : BillingRecord :=
  { epoch := s.billing.epoch, tenant := t, flags := flags, boundPorts := bound,
    heldSet := s.directory.tenants[t].heldSet,
    meters := s.billing.meters[t].getD (Meters.opened 0), closingResident := BitVec.ofNat 64 closing }

/-- R151, step 1: the flags of a close. -/
def closeFlags (s : State) (final : Bool) : RecordFlags :=
  { locked := s.billing.lock, late := s.billing.overdue, final := final, removed := false }

/-- R151, step 1: one record per defined tenant, in ascending tenant order. -/
def closeRecords (s : State) (final : Bool) : List BillingRecord :=
  (definedTenants s).map fun t =>
    recordFor s t (closeFlags s final) (boundPorts s t) (resident s t)

/-- R14: every staged binding becomes the applied one, and every retired mark is cleared. -/
def applyStagedBindings (s : State) : State :=
  { s with
    directory := { s.directory with
      applied := Vector.ofFn fun q : StationPort => s.directory.staged[q].getD s.directory.applied[q]
      staged := Vector.replicate 32 none
      tenants := Vector.ofFn fun t : TenantId => { s.directory.tenants[t] with retired := false } } }

/-- R151, step 3: staged settings become the standing ones. -/
def applyStagedSettings : State → State :=
  modBilling fun b =>
    match b.staged with
    | some (sel, len) => { b with tickSelect := sel, length := len, staged := none }
    | none => b

/-- R151, step 4, and R146: an epoch opens: the number rises, the meters open, the count and the tick
generator start from zero, OVERDUE is clear. -/
def openEpoch (s : State) : State :=
  modBilling
    (fun b =>
      { b with
        epoch := b.epoch + 1, meters := openedMeters s, count := 0, tickElapsed := 0,
        overdue := false }) s

/-- R151, step 4: after a final close no epoch opens. The count stays as it is (log 32). -/
def stopBilling : State → State :=
  modBilling fun b =>
    { b with meters := Vector.replicate 64 none, overdue := false, state := .stopped }

/-- R145, R151: whether a close is final: asked for by BILL-STOP, or at the largest epoch number. -/
def isFinalClose (s : State) (stop : Bool) : Bool := stop || s.billing.epoch == lastEpoch

/-- R151: a close that has found room. -/
def closeEpoch (stop : Bool) (s : State) : State :=
  let final := isFinalClose s stop
  let t := modBilling (fun b => { b with queue := b.queue ++ closeRecords s final }) s
  let t := applyStagedSettings (applyStagedBindings t)
  let t := if final then stopBilling t else openEpoch t
  raiseEpochClosed s.billing.epoch (closeFlags s final) t

/-- R152: an expiry without room. -/
def goOverdue (s : State) : State :=
  raiseBillOverdue s.billing.epoch (placesNeeded s) (modBilling (fun b => { b with overdue := true }) s)

/-- R148, step 3: the expiry of the epoch. -/
def expireEpoch (s : State) : State := if hasRoom s then closeEpoch false s else goOverdue s

/-! ### The epoch timer (R148) -/

/-- Whether the tick generator runs and has reached the tick select. -/
def tickDue (s : State) : Bool :=
  s.billing.state != .stopped && s.billing.tickSelect.micros ≤ s.billing.tickElapsed

/-- R148, step 1: cell_ticks sampled for every defined tenant. -/
def sampleCells (s : State) : State :=
  (definedTenants s).foldl (fun acc t => reportCellTicks t (tenantCommon s t + tenantHeadroom s t) acc) s

/-- R148, step 2: whether this tick is counted. -/
def countsTick (s : State) : Bool := s.billing.state == .running && !s.billing.overdue

/-- R148: one tick: sampling, counting, and the expiry if the count has reached the length. The generator
goes on: a tick taken late leaves its lateness toward the next one (log 5). -/
def epochTickEvent (s : State) : State :=
  let t := sampleCells
    (modBilling (fun b => { b with tickElapsed := b.tickElapsed - b.tickSelect.micros }) s)
  if countsTick s then
    let t := modBilling (fun b => { b with count := b.count + 1 }) t
    if s.billing.length ≤ s.billing.count + 1 then expireEpoch t else t
  else t

/-- Whether the tick that is due is the one that brings the count to the length (log 5). -/
def expiryDue (s : State) : Bool :=
  tickDue s && countsTick s && decide (s.billing.length ≤ s.billing.count + 1)

/-! ### Requests -/

/-- The epoch number as 4 bytes. -/
def epochBytes (e : BitVec 32) : List Byte := bytesOf 4 e.toNat

/-- R146: BILL-START. -/
def billStart (_body : List Byte) (s : State) : State × Answer :=
  if s.billing.state ≠ .stopped ∨ s.billing.epoch = lastEpoch then refuse .state s
  else
    let t := modBilling (fun b => { b with state := .running }) (openEpoch s)
    (t, ⟨.ok, epochBytes t.billing.epoch⟩)

/-- R147: BILL-HOLD. -/
def billHold (_body : List Byte) (s : State) : State × Answer :=
  if s.billing.state = .running then (modBilling (fun b => { b with state := .held }) s, ⟨.ok, []⟩)
  else refuse .state s

/-- R147: BILL-RESUME. -/
def billResume (_body : List Byte) (s : State) : State × Answer :=
  if s.billing.state = .held then (modBilling (fun b => { b with state := .running }) s, ⟨.ok, []⟩)
  else refuse .state s

/-- R153: BILL-CLOSE. -/
def billClose (_body : List Byte) (s : State) : State × Answer :=
  if s.billing.state = .stopped then refuse .state s
  else if !hasRoom s then refuse .full s
  else (closeEpoch false s, ⟨.ok, epochBytes s.billing.epoch⟩)

/-- R153: BILL-STOP. -/
def billStop (_body : List Byte) (s : State) : State × Answer :=
  if s.billing.state = .stopped then refuse .state s
  else if s.billing.lock then refuse .locked s
  else if !hasRoom s then refuse .full s
  else (closeEpoch true s, ⟨.ok, epochBytes s.billing.epoch⟩)

/-- R149: the settings applied: in RUNNING or HELD the count and the tick generator start from zero. In
STOPPED the count stays, above a shorter length also (R148, log 32). -/
def applySettings (sel : TickSelect) (len : Nat) : State → State :=
  modBilling fun b =>
    if b.state = .stopped then { b with tickSelect := sel, length := len }
    else { b with tickSelect := sel, length := len, count := 0, tickElapsed := 0 }

/-- R149: BILL-SET. -/
def billSet (body : List Byte) (s : State) : State × Answer :=
  let len := field body 1 2
  match tickSelectOf? (field body 0 1) with
  | none => refuse .value s
  | some sel =>
    if len = 0 then refuse .value s
    else if s.billing.overdue then refuse .state s
    else if s.billing.lock ∧ s.billing.state ≠ .stopped then
      (modBilling (fun b => { b with staged := some (sel, len) }) s, ⟨.staged, []⟩)
    else (applySettings sel len s, ⟨.ok, []⟩)

/-- R155: BILL-DRAIN. -/
def billDrain (body : List Byte) (s : State) : State × Answer :=
  let n := field body 0 1
  if n = 0 ∨ 9 < n then refuse .value s
  else
    let drained := s.billing.queue.take n
    let t := modBilling (fun b => { b with queue := b.queue.drop n }) s
    let t := if s.billing.overdue && hasRoom t then closeEpoch false t else t
    (t, ⟨.ok, bytesOf 1 drained.length ++ bytesOf 2 t.billing.queue.length ++
      drained.flatMap BillingRecord.bytes⟩)

/-- R156: BILL-LOCK. -/
def billLock (_body : List Byte) (s : State) : State × Answer :=
  (modBilling (fun b => { b with lock := true }) s, ⟨.ok, []⟩)

/-- A byte the spec does not state, drawn from the free values (log 16). -/
def drawByte (s : State) : State × Byte :=
  ({ s with freeCount := s.freeCount + 1 }, Config.freeByte s.freeCount)

/-- The three bytes of the staged tick select and length; where no settings are staged the spec states no
content for them (log 16). -/
def stagedBytes (s : State) : State × List Byte :=
  match s.billing.staged with
  | some (sel, len) => (s, bytesOf 1 sel.code ++ bytesOf 2 len)
  | none =>
    let (s, a) := drawByte s
    let (s, b) := drawByte s
    let (s, c) := drawByte s
    (s, [a, b, c])

/-- The meters part of a BILL-QUERY reply: present when a tenant is named and its meters are open. -/
def queryMeters (s : State) (t : Option TenantId) : List Byte :=
  match t with
  | some t =>
    match s.billing.state, s.billing.meters[t] with
    | .stopped, _ => bytesOf 1 0
    | _, some m => bytesOf 1 1 ++ m.bytes ++ bytesOf 8 (resident s t)
    | _, none => bytesOf 1 1 ++ (Meters.opened 0).bytes ++ bytesOf 8 (resident s t)
  | none => bytesOf 1 0

/-- R157: the reply of BILL-QUERY. -/
def billReport (s : State) (t : Option TenantId) : State × Answer :=
  let b := s.billing
  let (s', staged) := stagedBytes s
  (s', ⟨.ok, bytesOf 1 b.state.code ++ bytesOf 1 (yesNo b.overdue) ++ epochBytes b.epoch ++
    bytesOf 1 b.tickSelect.code ++ bytesOf 2 b.length ++ bytesOf 2 b.count ++
    bytesOf 1 (yesNo b.staged.isSome) ++ staged ++ bytesOf 1 (yesNo b.lock) ++
    bytesOf 2 b.queue.length ++ bytesOf 2 (freePlaces s) ++ bytesOf 1 (placesNeeded s) ++
    queryMeters s t⟩)

/-- R157: BILL-QUERY. -/
def billQuery (body : List Byte) (s : State) : State × Answer :=
  if body.isEmpty then billReport s none
  else
    match tenantOf? (field body 0 1) with
    | none => refuse .value s
    | some t => if s.directory.tenants[t].defined then billReport s (some t) else refuse .notFound s

end Sys2Proof.Machine
end

