-- ==== Sys2Proof/Machine/Measuring.lean ====
section
/-! DEFINITION. The Measurement Engine: filing, withdrawal, the beginning of a measurement (chapter 8). -/

namespace Sys2Proof.Machine

open Sys2Proof

/-- R137: the length of a measurement, 2 ms. -/
def measureUs : Nat := 2000

/-- R137: a measurement begins whenever the engine is IDLE and its list is not empty: the head of the
recovery group, else the head of the host group. -/
def beginMeasurement (s : State) : State :=
  let start (r : MeasureRequest) : InProgress :=
    { request := r, left := measureUs, lineBad := !s.ports[r.port].lineGood }
  match s.measurement.inProgress, s.measurement.recovery, s.measurement.host with
  | none, r :: rest, _ =>
    { s with measurement := { s.measurement with inProgress := some (start r), recovery := rest } }
  | none, [], r :: rest =>
    { s with measurement := { s.measurement with inProgress := some (start r), host := rest } }
  | _, _, _ => s

/-- Whether a port has a request in the pending list (R134). -/
def hasPending (s : State) (p : Port) : Bool :=
  s.measurement.recovery.any (·.port == p) || s.measurement.host.any (·.port == p)

/-- Whether a port's request is in progress. -/
def isMeasured (s : State) (p : Port) : Bool :=
  (s.measurement.inProgress.map fun i => i.request.port) == some p

/-- R140: a port's pending request leaves the list; for a host request a WITHDRAWN result is raised. -/
def withdraw (p : Port) (s : State) : State :=
  let hadHost := s.measurement.host.any (·.port == p)
  let s := { s with
    measurement := { s.measurement with
      recovery := s.measurement.recovery.filter (·.port ≠ p)
      host := s.measurement.host.filter (·.port ≠ p) } }
  if hadHost then raiseMeasureDone { port := p, outcome := .withdrawn } s else s

/-- R120, R135: a recovery request filed at the entry to PROBING: a pending host request of the port is
withdrawn, the request joins the tail of the recovery group and is the port's present request, and an
IDLE engine begins it. -/
def fileRecovery (p : Port) (s : State) : State :=
  let s := withdraw p s
  let id := s.measurement.filed
  let r : MeasureRequest := { id := id, port := p, origin := .recovery, filed := .probing }
  let s := { s with
    measurement := { s.measurement with
      recovery := s.measurement.recovery ++ [r], filed := id + 1 } }
  beginMeasurement (modPort p (fun u => { u with presentRequest := some id }) s)

/-- R136: a host request filed. -/
def fileHost (p : Port) (s : State) : State :=
  let id := s.measurement.filed
  let r : MeasureRequest := { id := id, port := p, origin := .host, filed := s.ports[p].link }
  beginMeasurement
    { s with
      measurement := { s.measurement with host := s.measurement.host ++ [r], filed := id + 1 } }

/-- R138: a drop of line-good during a measurement of the port spoils it. -/
def spoilMeasurement (p : Port) (s : State) : State :=
  { s with
    measurement := { s.measurement with
      inProgress := s.measurement.inProgress.map fun i =>
        if i.request.port = p then { i with lineBad := true } else i } }

/-- R138: the margin: the raw margin, 0 for a spoiled line, plus the calibration offset, held within 0
to 255. -/
def marginOf (offset : Int) (lineBad : Bool) (raw : Byte) : Nat :=
  let r : Int := if lineBad then 0 else raw.toNat
  (min 255 (max 0 (r + offset))).toNat

end Sys2Proof.Machine
end

