-- ==== Sys2Proof/Machine/Pacing.lean ====
section
/-! DEFINITION. Congestion relief: control frames on the line, pacing generators, congestion states,
contributor sets and the paced condition (chapter 5). -/

namespace Sys2Proof.Machine

open Sys2Proof

/-- The state with a generator replaced by `f` of it. -/
def modGenerator (p : Port) (f : Generator → Generator) (s : State) : State :=
  { s with relief := { s.relief with generators := updAt s.relief.generators p f } }

/-! ### The line interface's waiting places (R91, R105) -/

/-- A pause or release frame handed: sent at once on an idle line, else it waits, replacing the one
that waited (R91). -/
def handControl (p : Port) (c : ControlFrame) (s : State) : State :=
  if lineBusy s p then modPort p (fun u => { u with waitingControl := some c }) s
  else emit (.control p c) s

/-- R107: the next beacon handed with the rolling count, which then rises; it is sent at once on an
idle line, else it waits, replacing the one that waited (R105). -/
def handBeacon (p : Port) (s : State) : State :=
  let count := s.ports[p].rollingCount
  let s := modPort p
    (fun u => { u with rollingCount := count + 1, beaconsSent := u.beaconsSent + 1 }) s
  if lineBusy s p then modPort p (fun u => { u with waitingBeacon := some count }) s
  else emit (.beacon p count) s

/-- At the end of a data frame the waiting pause or release is sent first and the waiting beacon
directly after it (R105). -/
def sendWaiting (p : Port) (s : State) : State :=
  let s := match s.ports[p].waitingControl with
    | some c => emit (.control p c) s
    | none => s
  let s := match s.ports[p].waitingBeacon with
    | some c => emit (.beacon p c) s
    | none => s
  modPort p (fun u => { u with waitingControl := none, waitingBeacon := none }) s

/-- At a fence or disable both waiting places are emptied and their frames are not sent (R105). -/
def discardWaiting (p : Port) : State → State :=
  modPort p fun u => { u with waitingControl := none, waitingBeacon := none }

/-! ### Pacing generators (R86 to R91) -/

/-- R91: the pause time a pause frame carries. -/
def carriedPauseTime (pauseTime : Nat) : Nat := min 65535 (pauseTime + 50)

/-- R87: a pause is handed and counted, and PAUSING begins with pause_time loaded. -/
def startPausing (p : Port) (s : State) : State :=
  let pauseTime := s.relief.settings.pauseTime
  modGenerator p
    (fun g => { g with state := .pausing, timer := some pauseTime, pausesSent := g.pausesSent + 1 })
    (handControl p (.pause (carriedPauseTime pauseTime)) s)

/-- R88: a release is handed and counted; RELEASING begins if the port is paced, else IDLE. -/
def endPausing (p : Port) (s : State) : State :=
  let releaseTime := s.relief.settings.releaseTime
  let paced := s.relief.paced[p]
  modGenerator p
    (fun g =>
      { g with
        state := if paced then .releasing else .idle
        timer := if paced then some releaseTime else none
        releasesSent := g.releasesSent + 1 })
    (handControl p .release s)

/-- R90: the generator enters IDLE and its timer stops; no frame is handed. -/
def forceIdle (p : Port) : State → State :=
  modGenerator p fun g => { g with state := .idle, timer := none }

/-- R85, R87 to R89: the port's paced condition as it stands at the end of the event, handed if it has
changed. -/
def handPacedPort (p : Port) (paced : Bool) (s : State) : State :=
  if s.relief.paced[p] = paced then s
  else
    let s := { s with relief := { s.relief with paced := s.relief.paced.set p paced } }
    match s.relief.generators[p].state, paced with
    | .idle, true => startPausing p s
    | .releasing, false => forceIdle p s
    | _, _ => s

/-- R85: whether a port is paced: it is UP and belongs to the contributor set of a CONGESTED queue. -/
def pacedNow (s : State) (p : Port) : Bool :=
  s.ports[p].link == .up &&
    (List.finRange 40).any fun q => s.relief.congested[q] && s.relief.contributors[q][p]

/-- R85, R96: every port's paced condition re-established at the end of an event. -/
def handPaced (s : State) : State :=
  (List.finRange 40).foldl (fun acc p => handPacedPort p (pacedNow s p) acc) s

/-! ### Congestion states and contributor sets (R81 to R84) -/

/-- R81: the congestion state after an evaluation. -/
def congestedAfter (settings : ReliefSettings) (congested : Bool) (occ : Nat) : Bool :=
  if congested then !(occ ≤ settings.paceOff) else settings.paceOn ≤ occ

/-- R83: whether a port meets both conditions of a queue's contributor set. -/
def contributes (s : State) (queue ingress : Port) : Bool :=
  s.ports[ingress].link == .up &&
    s.relief.settings.share ≤ cellsFrom s.buffer s.buffer.held[queue] ingress

/-- R81, R83: the evaluation at a change of a held queue's occupancy; RELIEF is raised at a change of
state (R82). -/
def evaluateQueue (q : Port) (s : State) : State :=
  let was := s.relief.congested[q]
  let now := congestedAfter s.relief.settings was (occupancy s.buffer s.buffer.held[q])
  let set : PortSet := if now then Vector.ofFn fun i : Port => contributes s q i else PortSet.empty
  let s := { s with
    relief := { s.relief with
      congested := s.relief.congested.set q now
      contributors := s.relief.contributors.set q set } }
  if was = now then s else raiseRelief q s

/-- R84: the port leaves every contributor set. -/
def leaveContributors (p : Port) (s : State) : State :=
  { s with
    relief := { s.relief with
      contributors := Vector.ofFn fun q : Port => s.relief.contributors[q].set p false } }

/-- R84: the port joins the contributor set of every CONGESTED held queue in which the frames received
on it hold at least share cells. -/
def joinContributors (p : Port) (s : State) : State :=
  { s with
    relief := { s.relief with
      contributors := Vector.ofFn fun q : Port =>
        if s.relief.congested[q] && contributes s q p then s.relief.contributors[q].set p true
        else s.relief.contributors[q] } }

/-- R84, R90: the Relief Controller's part in a fence or disable: the port leaves every set, is paced no
more, and its generator is IDLE. -/
def relieveDeparture (p : Port) (s : State) : State :=
  let s := leaveContributors p s
  let s := { s with relief := { s.relief with paced := s.relief.paced.set p false } }
  forceIdle p s

/-- The end of an event that may have changed contributor sets, link states or conditions: the paced
conditions are handed (R96), then the conditions that arose are latched (R116). -/
def settle (before after : State) : State := latchArisen before (handPaced after)

end Sys2Proof.Machine
end

