-- ==== Sys2Proof/Machine/Queues.lean ====
section
/-! DEFINITION. The shared buffer and the egress queues: transmission, completion, flush, re-home and
admission (chapter 4). -/

namespace Sys2Proof.Machine

open Sys2Proof

/-! ### Queues -/

/-- The queue of a class on a port. -/
def queueOf (b : Buffer) (cls : TrafficClass) (p : Port) : List CopyEntry :=
  match cls with
  | .held => b.held[p]
  | .bulk => b.bulk[p]

/-- The state with a queue replaced by `f` of it. -/
def modQueue (cls : TrafficClass) (p : Port) (f : List CopyEntry → List CopyEntry) (s : State) : State :=
  match cls with
  | .held => { s with buffer := { s.buffer with held := updAt s.buffer.held p f } }
  | .bulk => { s with buffer := { s.buffer with bulk := updAt s.buffer.bulk p f } }

/-- The state with a port's held streak. -/
def setStreak (p : Port) (n : Nat) (s : State) : State :=
  { s with buffer := { s.buffer with streak := s.buffer.streak.set p n } }

/-! ### The transmit scheduler (R67, R68) -/

/-- A queue whose head is in transmission. -/
def startHead : List CopyEntry → List CopyEntry
  | [] => []
  | c :: rest => { c with inTransmission := true } :: rest

/-- R68: the head of a queue begins transmission; a marked copy is handed with the congestion indication
set. The frame goes out as it was received, with its arrival's segment tag and priority, on a trunk port
also (log 29). -/
def beginTransmission (cls : TrafficClass) (p : Port) (s : State) : State :=
  match queueOf s.buffer cls p with
  | [] => s
  | c :: _ =>
    let s' := modQueue cls p startHead s
    match frameOf? s.buffer c.frame with
    | some r => emit (.dataFrame p r.data c.marked) s'
    | none => s'

/-- R67: whether the held queue is eligible. -/
def heldEligible (s : State) (p : Port) : Bool :=
  !s.buffer.held[p].isEmpty && s.ports[p].peerPause.isNone

/-- R67: what the scheduler takes. -/
def selection (s : State) (p : Port) : Option TrafficClass :=
  if s.ports[p].link ≠ .up || lineBusy s p then none
  else if heldEligible s p && (s.buffer.streak[p] < 8 || s.buffer.bulk[p].isEmpty) then some .held
  else if !s.buffer.bulk[p].isEmpty then some .bulk
  else none

/-- R67: the scheduler's selection at an event of the port. -/
def schedule (p : Port) (s : State) : State :=
  match selection s p with
  | some .held => beginTransmission .held p (setStreak p (min 8 (s.buffer.streak[p] + 1)) s)
  | some .bulk => beginTransmission .bulk p (setStreak p 0 s)
  | none => s

/-! ### Copies leaving (R58, R69, R73) -/

/-- A copy's record after the copy is delivered or flushed: copies_remaining falls by one, and at 0 the
record is freed and its cells are returned (R58). -/
def dropCopy (id : Nat) (s : State) : State :=
  { s with
    buffer := { s.buffer with
      records := s.buffer.records.filterMap fun kr =>
        if kr.1 = id then
          if kr.2.copiesRemaining ≤ 1 then none
          else some (kr.1, { kr.2 with copiesRemaining := kr.2.copiesRemaining - 1 })
        else some kr } }

/-- Steps 2 and 3 of R69 with the record's return: a copy delivered. -/
def deliverCopy (id : Nat) (s : State) : State :=
  match frameOf? s.buffer id with
  | some r => dropCopy id (reportDelivered r.tenant r.length s)
  | none => s

/-- Steps 3 and 4 of R73: a copy flushed. -/
def flushCopy (id : Nat) (s : State) : State :=
  match frameOf? s.buffer id with
  | some r => dropCopy id (reportFlushed r.tenant r.length s)
  | none => s

/-- The copies of a list flushed in order. -/
def flushCopies (copies : List CopyEntry) (s : State) : State :=
  copies.foldl (fun acc c => flushCopy c.frame acc) s

/-- R70: a transmission in progress on the port is aborted. -/
def abortTransmission (p : Port) (s : State) : State :=
  if lineBusy s p then emit (.abort p) s else s

/-- Both queues of a port emptied and its held streak 0 (R73, R75), which it becomes where the queues were
empty already, too (log 34). -/
def emptyQueues (p : Port) (s : State) : State :=
  setStreak p 0 (modQueue .held p (fun _ => []) (modQueue .bulk p (fun _ => []) s))

/-- The evaluation of a held queue whose occupancy has changed (R77). -/
def evaluateIfChanged (q : Port) (before after : State) : State :=
  if occupancy before.buffer before.buffer.held[q] = occupancy after.buffer after.buffer.held[q] then
    after
  else evaluateQueue q after

/-- The evaluation of those of a list of held queues whose occupancy has changed (R77). -/
def evaluateChanged (qs : List Port) (before after : State) : State :=
  qs.foldl (fun acc q => evaluateIfChanged q before acc) after

/-- The evaluation of a list of held queues (R77, R81). -/
def evaluateAll (qs : List Port) (s : State) : State := qs.foldl (fun acc q => evaluateQueue q acc) s

/-- The scheduler's selection on a list of ports (R67). -/
def scheduleAll (ps : List Port) (s : State) : State := ps.foldl (fun acc p => schedule p acc) s

/-- R73: a flush of a port; the number of copies flushed is handed back. -/
def flushPort (p : Port) (s : State) : State × Nat :=
  let copies := s.buffer.held[p] ++ s.buffer.bulk[p]
  let t := flushCopies copies (emptyQueues p (abortTransmission p s))
  (evaluateIfChanged p s t, copies.length)

/-! ### Re-home (R75, R76) -/

/-- Where a fenced trunk's held copy goes: the member selected for its frame's flow hash, the fenced
port excluded (R75, step 3). -/
def rehomeTarget (s : State) (fenced : Port) (c : CopyEntry) : Option Port :=
  match groupOfPort s fenced, frameOf? s.buffer c.frame with
  | some g, some r => selectMemberExcept s g r.flowHash fenced
  | _, _ => none

/-- R75: the held copies, from head to tail, each moved to a member or flushed; the copy in
transmission has been taken out. -/
def rehomeHeld (fenced : Port) (copies : List CopyEntry) (s : State) : State :=
  copies.foldl
    (fun acc c =>
      match rehomeTarget acc fenced c with
      | some m => modQueue .held m (· ++ [c]) acc
      | none => flushCopy c.frame acc) s

/-- R75: the re-home of a fenced trunk's queues; the counts of copies flushed and moved are handed back.
The moved copies are those that find a member. -/
def rehomePort (p : Port) (s : State) : State × Nat × Nat :=
  let held := s.buffer.held[p]
  let bulk := s.buffer.bulk[p]
  let sending := held.filter CopyEntry.inTransmission ++ bulk.filter CopyEntry.inTransmission
  let waitingBulk := bulk.filter fun c => !c.inTransmission
  let waitingHeld := held.filter fun c => !c.inTransmission
  let t := emptyQueues p (abortTransmission p s)
  let t := flushCopies waitingBulk (flushCopies sending t)
  let targets := waitingHeld.filterMap (rehomeTarget t p)
  let t := rehomeHeld p waitingHeld t
  let t := scheduleAll targets (evaluateChanged (p :: targets) s t)
  (t, held.length + bulk.length - targets.length, targets.length)

/-! ### Completion (R69) -/

/-- The class of the copy a port's transmitter is sending, at the head of its queue. -/
def sendingClass (s : State) (p : Port) : Option TrafficClass :=
  if (s.buffer.held[p].head?.map CopyEntry.inTransmission) = some true then some .held
  else if (s.buffer.bulk[p].head?.map CopyEntry.inTransmission) = some true then some .bulk
  else none

/-- R69: the completion of the transmission of a class's head: the copy leaves and is delivered, the
line's waiting frames go out, the scheduler selects, and a held queue is evaluated. -/
def completeHead (cls : TrafficClass) (p : Port) (s : State) : State :=
  match queueOf s.buffer cls p with
  | [] => s
  | c :: rest =>
    let t := deliverCopy c.frame (modQueue cls p (fun _ => rest) s)
    let t := schedule p (sendWaiting p t)
    evaluateIfChanged p s t

/-! ### Admission (R62 to R65) -/

/-- The least id not in use among the ids up to `n`. -/
def freeIdBelow (used : List Nat) (n : Nat) : Option Nat :=
  (List.range (n + 1)).find? fun i => !used.contains i

/-- R58, R62: a free stored-frame record, if one of the 8,192 is. -/
def freeRecord (b : Buffer) : Option Nat :=
  if b.records.length < 8192 then freeIdBelow (b.records.map Prod.fst) b.records.length else none

/-- A record placed by its id. -/
def insertRecord (id : Nat) (r : StoredFrame) : List (Nat × StoredFrame) → List (Nat × StoredFrame)
  | [] => [(id, r)]
  | x :: xs => if id < x.1 then (id, r) :: x :: xs else x :: insertRecord id r xs

/-- R63: the storage of a frame of `c` cells, if it can be stored. -/
def chooseStorage (s : State) (t : TenantId) (cls : TrafficClass) (ingress : Port) (c : Nat) :
    Option Storage :=
  if tenantCommon s t + c ≤ s.directory.tenants[t].quotaCells && c ≤ commonFree s then some .common
  else if cls == .held && headroomInUse s ingress + c ≤ allowance s ingress then some .headroom
  else none

/-- R64, checks 2 and 3: whether a copy fits its queue. -/
def fitsQueue (s : State) (cls : TrafficClass) (storage : Storage) (c : Nat) (p : Port) : Bool :=
  match cls, storage with
  | .bulk, _ => occupancy s.buffer s.buffer.bulk[p] + c ≤ s.relief.settings.bulkLimit
  | .held, .common => occupancy s.buffer s.buffer.held[p] + c ≤ s.relief.settings.heldLimit
  | .held, .headroom => true

/-- R64: a bulk copy is marked when its queue's occupancy was at least mark_threshold. -/
def isMarked (s : State) (cls : TrafficClass) (p : Port) : Bool :=
  cls == .bulk && s.relief.settings.markThreshold ≤ occupancy s.buffer s.buffer.bulk[p]

/-- R64: the copies of a list that pass, in list order, with `free` copy entries left. A list names each
egress port at most once (R39), so no copy's queue check depends on another copy of the list. -/
def passingCopies (s : State) (cls : TrafficClass) (storage : Storage) (c : Nat) :
    Nat → List Port → List Port
  | _, [] => []
  | 0, _ :: _ => []
  | free + 1, p :: rest =>
    if fitsQueue s cls storage c p then p :: passingCopies s cls storage c free rest
    else passingCopies s cls storage c (free + 1) rest

/-- What a decision hands to admission (R38, step 6). -/
structure Offer where
  tenant : TenantId
  ingress : Port
  cls : TrafficClass
  flowHash : Fin 256
  data : DataFrame
  copies : List Port
  deriving DecidableEq, Repr

/-- R65: the copies that passed are stored: the record filled, a copy entry at the tail of each queue. -/
def storeFrame (o : Offer) (id : Nat) (storage : Storage) (passed : List Port) (s : State) : State :=
  let r : StoredFrame :=
    { tenant := o.tenant, ingress := o.ingress, cls := o.cls, length := o.data.length,
      cells := cellsOfLength o.data.length, storage := storage, flowHash := o.flowHash,
      copiesRemaining := passed.length, data := o.data }
  let t := { s with buffer := { s.buffer with records := insertRecord id r s.buffer.records } }
  passed.foldl
    (fun acc p =>
      modQueue o.cls p (· ++ [{ frame := id, marked := isMarked s o.cls p, inTransmission := false }])
        acc) t

/-- R62 to R65, R77, R67: the admission of a copy list. -/
def admission (o : Offer) (s : State) : State :=
  let c := cellsOfLength o.data.length
  let k := o.copies.length
  match freeRecord s.buffer, chooseStorage s o.tenant o.cls o.ingress c with
  | some id, some storage =>
    let passed := passingCopies s o.cls storage c (16384 - entriesInUse s.buffer) o.copies
    let marked := passed.countP (isMarked s o.cls)
    let t := reportAdmission o.tenant o.data.length passed.length marked (k - passed.length) s
    if passed.isEmpty then t
    else
      let t := storeFrame o id storage passed t
      let t := match o.cls with
        | .held => evaluateAll passed t
        | .bulk => t
      scheduleAll passed t
  | _, _ => reportAdmission o.tenant o.data.length 0 0 k s

end Sys2Proof.Machine
end

