-- ==== Sys2Proof/Machine/Faults.lean ====
section
/-! DEFINITION. The link state machine: entries to DOWN and UP, the fence, enable and disable (chapter 7). -/

namespace Sys2Proof.Machine

open Sys2Proof

/-! ### Changes of link state -/

/-- A change of link state: it is noted for a frame in reception (R104) and raises PORT-CHANGE (R131). -/
def setLink (p : Port) (l : LinkState) (s : State) : State :=
  raisePortChange p
    (modPort p
      (fun u =>
        { u with
          link := l
          reception := u.reception.map fun r => { r with changed := true } }) s)

/-- A fence or disable cuts a frame in reception (R104). `silenced` is the time of a SILENT fence; it is
kept where that fence is the first to cut the frame (R109, log 15). -/
def cutReception (p : Port) (silenced : Option (BitVec 48)) : State → State :=
  modPort p fun u =>
    { u with
      reception := u.reception.map fun r =>
        { r with cut := true, silencedAt := if r.cut then none else silenced } }

/-- R111: a break in progress ends at the departure from FENCED or BARRED. -/
def endBreak (p : Port) (s : State) : State :=
  match s.ports[p].breakTimer with
  | some _ => emit (.breakEnd p) (modPort p (fun u => { u with breakTimer := none }) s)
  | none => s

/-- R113: qualification starts from zero with qualify_ms as it stands. -/
def startQualification (p : Port) : State → State :=
  modPort p fun u => { u with qualification := some (msToUs u.config.qualifyMs) }

/-- R106: the error window starts with error_count 0. -/
def startErrorWindow (p : Port) : State → State :=
  modPort p fun u => { u with errorCount := 0, errorWindow := some (msToUs u.config.errorWindowMs) }

/-- The entry to DOWN (R118, R121, R127, R128): the break in progress ends, a trunk hands a beacon and
loads its beacon timer (R107), qualification starts if line_good is yes (R113). The timers of the state
left, hold-down among them, are stopped by the event that leaves it. -/
def enterDown (p : Port) (s : State) : State :=
  let s := setLink p .down (endBreak p s)
  let s := if isStation p then s
    else modPort p (fun u => { u with beaconTimer := some (msToUs u.config.beaconMs) }) (handBeacon p s)
  let s := modPort p (fun u => { u with reference := none, qualification := none }) s
  if s.ports[p].lineGood then startQualification p s else s

/-- R52: a trunk member's entry to UP membership. -/
def joinUp (p : Port) (s : State) : State :=
  match groupOfPort s p with
  | some g => modGroup g (fun t => { t with up := t.up ||| (1#8 <<< trunkBit p) }) s
  | none => s

/-- R52, R32: a trunk member leaves the UP membership it stands in; a membership left empty flushes the
group's LEARNED entries. -/
def leaveUp (p : Port) (s : State) : State :=
  match groupOfPort s p with
  | some g =>
    if (groupTables s g).up.getLsbD (trunkBit p) then
      let s := modGroup g (fun t => { t with up := t.up &&& ~~~ (1#8 <<< trunkBit p) }) s
      if (groupTables s g).up = 0 then flushTarget (.group g) s else s
    else s
  | none => s

/-- R31: a station port's LEARNED entries removed; a trunk port's departure removes none by itself. -/
def forgetStations (p : Port) (s : State) : State :=
  match stationOf? p with
  | some q => flushTarget (.port q) s
  | none => s

/-- R122: the entry to UP from PROBING. -/
def enterUp (p : Port) (s : State) : State :=
  let s := setLink p .up s
  let s := if isStation p then s else joinUp p s
  let s := joinContributors p s
  modPort p
    (fun u =>
      { u with
        silence := if isStation p then none else some 0
        quiet := false
        quietTimer := none
        steady := some 0 }) s

/-! ### The fence (R123 to R126, R129) -/

/-- Step 1 of R123: a new capture replaces the previous one; the later steps fill the flap count, barred
and the copies. -/
def openCapture (p : Port) (cause : FaultCause) (s : State) : State :=
  modPort p
    (fun u =>
      { u with
        capture := some
          { cause := cause, timestamp := s.now, stateAtFault := u.link, errorCount := u.errorCount,
            flapCount := 0, barred := false, copiesFlushed := 0, copiesRehomed := 0, unread := true,
            overwritten := (u.capture.map Capture.unread).getD false }
        captureCount := u.captureCount + 1 }) s

/-- R125: the flap count after a fence. -/
def flapCountAfter (u : PortUnit) : Nat := if u.flapWindow.isSome then u.flapCount + 1 else 1

/-- R125: whether the fence is a barring fence. -/
def isBarring (u : PortUnit) : Bool := u.config.flapLimit ≤ flapCountAfter u

/-- Step 2 of R123, R125: the flap counted; a barring fence closes the window and keeps the count. -/
def countFlap (p : Port) : State → State :=
  modPort p fun u =>
    { u with
      flapCount := flapCountAfter u
      flapWindow :=
        if isBarring u then none
        else if u.flapWindow.isSome then u.flapWindow else some (sToUs u.config.flapWindowS)
      capture := u.capture.map fun c =>
        { c with flapCount := flapCountAfter u, barred := isBarring u } }

/-- Step 3 of R123, R126: the hold-down loaded and the step raised; a barring fence loads none. -/
def loadHolddown (p : Port) (barring : Bool) : State → State :=
  modPort p fun u =>
    if barring then { u with holddown := none }
    else
      { u with
        holddown := some (msToUs (u.config.holddownBaseMs * 2 ^ u.holddownStep))
        holddownStep := min 6 (u.holddownStep + 1) }

/-- Step 4 of R123: the monitors that run in UP alone stop, the steady timer stops; a barring fence stops
the error window with error_count 0. No beacon reference is kept in FENCED and BARRED (R108). -/
def stopMonitors (p : Port) (barring : Bool) : State → State :=
  modPort p fun u =>
    { u with
      silence := none, quiet := false, quietTimer := none, steady := none, reference := none
      errorWindow := if barring then none else u.errorWindow
      errorCount := if barring then 0 else u.errorCount }

/-- Step 1 of R124: the Buffer Manager's part: a station port's queues are flushed, a trunk port's
re-homed; peer_paused is cleared (R72), at a fence from PROBING too (log 35); the counts are written into the
capture. -/
def fenceBuffer (p : Port) (s : State) : State :=
  let (t, flushed, moved) :=
    if isStation p then ((flushPort p s).1, (flushPort p s).2, 0) else rehomePort p s
  modPort p
    (fun u =>
      { u with
        peerPause := none
        capture := u.capture.map fun c => { c with copiesFlushed := flushed, copiesRehomed := moved } }) t

/-- Step 2 of R124, R111: both waiting places emptied, the break begins, the beacon timer stops. -/
def fenceLine (p : Port) (s : State) : State :=
  emit (.breakBegin p)
    (modPort p
      (fun u =>
        { u with
          waitingControl := none, waitingBeacon := none, beaconTimer := none
          breakTimer := some (msToUs u.config.breakMs) }) s)

/-- R123, R124: the fence of a port for a fault, in the order of their steps. -/
def fence (p : Port) (cause : FaultCause) (s : State) : State :=
  let barring := isBarring s.ports[p]
  let silenced := if cause = .silent then some s.now else none
  let s := loadHolddown p barring (countFlap p (openCapture p cause s))
  let s := setLink p (if barring then .barred else .fenced) s
  let s := stopMonitors p barring (cutReception p silenced s)
  let s := fenceLine p (fenceBuffer p s)
  let s := relieveDeparture p (forgetStations p s)
  let s := withdraw p (leaveUp p s)
  raiseFault p s

/-- R106: an error event: error_count rises, stopping at 65,535, and in UP an ERROR_BURST fault is handed
when it leaves the count at or above error_threshold. -/
def errorEvent (p : Port) (s : State) : State :=
  let s := modPort p (fun u => { u with errorCount := min 65535 (u.errorCount + 1) }) s
  if s.ports[p].link = .up ∧ s.ports[p].config.errorThreshold ≤ s.ports[p].errorCount then
    fence p .errorBurst s
  else s

/-! ### Enable and disable -/

/-- R56: the Buffer Manager's three checks of an enable with that headroom_cells. -/
def headroomCheck (s : State) (p : Port) (h : Nat) : Option Status :=
  let u := headroomInUse s p
  if h < u then some .full
  else if reserve s + (h - u) > 4096 then some .value
  else if commonFree s < h - u then some .full
  else none

/-- R118: the checks of an enable, in order. -/
def enableCheck (s : State) (p : Port) (h : Nat) : Option Status :=
  if hasStaged s p then some .state else headroomCheck s p h

/-- R118: an enable that passes, the record to be written given. -/
def enablePort (p : Port) (config : PortConfig) (s : State) : State :=
  let s := modPort p (fun u => { u with config := config }) s
  let s := if isStation p then s else modPort p (fun u => { u with rollingCount := 0 }) s
  enterDown p (startErrorWindow p s)

/-- R99, R119: the Port Unit's own part of a disable: the monitors marked "reset" take their restart
values, every timer of theirs stops, the flap history is cleared; the capture and the cumulative
counters are kept. -/
def resetMonitors (p : Port) : State → State :=
  modPort p fun u =>
    { u with
      errorCount := 0, errorWindow := none, lastBeacon := none, reference := none
      beaconTimer := none, silence := none, quiet := false, quietTimer := none
      qualification := none, peerPause := none, holddown := none, steady := none
      flapCount := 0, flapWindow := none, holddownStep := 0
      waitingControl := none, waitingBeacon := none, presentRequest := none }

/-- R119: a disable, the record already written. -/
def disablePort (p : Port) (s : State) : State :=
  let s := cutReception p none (setLink p .disabled s)
  let s := (flushPort p s).1
  let s := relieveDeparture p (forgetStations p s)
  let s := withdraw p (leaveUp p s)
  resetMonitors p (endBreak p s)

end Sys2Proof.Machine
end

