-- ==== Sys2Proof/Machine/Forwarding.lean ====
section
/-! DEFINITION. Classification, the source check, the destination lookup and the forwarding decision
(chapters 1, 2 and 3). -/

namespace Sys2Proof.Machine

open Sys2Proof

/-! ### Classification (R15 to R17) -/

/-- What classification gives a frame. -/
structure Classified where
  tenant : TenantId
  segment : SegmentId
  cls : TrafficClass
  deriving DecidableEq, Repr

/-- R17: the class of a priority under a tenant's held_set. -/
def classOf (s : State) (t : TenantId) (priority : Nat) : TrafficClass :=
  if s.directory.tenants[t].heldSet.getLsbD priority then .held else .bulk

/-- R15: a frame received on a station port takes its binding and the port's default_priority. -/
def classifyStation (s : State) (p : Port) : Option Classified :=
  (appliedBinding s p).map fun b =>
    { tenant := b.tenant, segment := b.segment,
      cls := classOf s b.tenant s.ports[p].config.defaultPriority }

/-- R16: a frame received on a trunk port is accepted if its tag names a defined segment whose
trunk_group is the group that has the port as a member; it carries its own priority. -/
def classifyTrunk (s : State) (p : Port) (f : DataFrame) : Option Classified :=
  match segmentOf? f.tag with
  | some g =>
    match s.directory.segments[g] with
    | some seg =>
      if seg.trunkGroup.isSome && seg.trunkGroup == groupOfPort s p then
        some { tenant := seg.owner, segment := g, cls := classOf s seg.owner f.priority.val }
      else none
    | none => none
  | none => none

/-- R15, R16: classification; `none` is a policy refusal to tenant 0. -/
def classify (s : State) (p : Port) (f : DataFrame) : Option Classified :=
  if isStation p then classifyStation s p else classifyTrunk s p f

/-! ### Counters of the ingress port (R47) -/

/-- R47: one frame filtered. -/
def countFiltered (p : Port) (s : State) : State :=
  { s with forwarding := { s.forwarding with filtered := updAt s.forwarding.filtered p (· + 1) } }

/-- R46, R47: a policy refusal, against a tenant and at the ingress port. -/
def refusePolicy (t : TenantId) (p : Port) (length : Nat) (s : State) : State :=
  reportPolicy t length
    { s with forwarding := { s.forwarding with refusedPolicy := updAt s.forwarding.refusedPolicy p (· + 1) } }

/-- R46, R47: an unavailable refusal, against a tenant and at the ingress port. -/
def refuseUnavailable (t : TenantId) (p : Port) (length : Nat) (s : State) : State :=
  reportUnavailable t length
    { s with
      forwarding := { s.forwarding with
        refusedUnavailable := updAt s.forwarding.refusedUnavailable p (· + 1) } }

/-! ### The source check (R21, R23 to R25) -/

/-- R21: the target of a frame's source check: the ingress port, or the trunk group it belongs to. -/
def checkTarget (s : State) (p : Port) : Option Target :=
  match stationOf? p with
  | some q => some (.port q)
  | none => (groupOfPort s p).map .group

/-- R23: the insertion of a LEARNED entry, or its refusal under the first cause that applies. A
reinsertion after the sweep's own removal is one of these insertions, so a station_limit lowered
meanwhile refuses it, R26's remark notwithstanding (log 30). -/
def learn (segment : SegmentId) (a : StationAddr) (target : Target) (t : TenantId) (s : State) : State :=
  if s.directory.tenants[t].stationLimit ≤ learnedCount s t then
    raiseLearnFullLimit t
      { s with
        stations := { s.stations with
          refusedLimit := updAt s.stations.refusedLimit t (· + 1) } }
  else if 4 ≤ bucketUse s (bucketOf segment a) then
    raiseLearnFullBucket t
      { s with stations := { s.stations with refusedBucket := s.stations.refusedBucket + 1 } }
  else
    placeEntry { segment := segment, address := a, kind := .learned true, target := target, tenant := t } s

/-- R24: a LEARNED entry found elsewhere moves. -/
def moveStation (segment : SegmentId) (a : StationAddr) (target : Target) (s : State) : State :=
  let s := modEntry segment a (fun e => { e with target := target, kind := .learned true }) s
  raiseStationMove segment a
    { s with stations := { s.stations with moves := s.stations.moves + 1 } }

/-- R21 to R25: the source check; the flag is true where the result is spoof. -/
def sourceCheck (c : Classified) (p : Port) (a : StationAddr) (s : State) : State × Bool :=
  if isGroupAddress a then (s, false)
  else
    match checkTarget s p with
    | none => (s, false)
    | some target =>
      match findEntry? s c.segment a with
      | none => (learn c.segment a target c.tenant s, false)
      | some e =>
        match e.kind with
        | .learned _ =>
          if e.target = target then
            (modEntry c.segment a (fun x => { x with kind := .learned true }) s, false)
          else (moveStation c.segment a target s, false)
        | .fixed =>
          if e.target = target then (s, false)
          else (modPort p (fun u => { u with spoof := u.spoof + 1 }) s, true)

/-- R22: the destination lookup; `none` is unknown. -/
def lookupDestination (s : State) (segment : SegmentId) (a : StationAddr) : Option Target :=
  if isGroupAddress a then none else (findEntry? s segment a).map StationEntry.target

/-! ### The copy list (R39 to R44, R48) -/

/-- R48: the flow hash. -/
def flowHash (segment : SegmentId) (f : DataFrame) : Fin 256 :=
  ⟨(addressByteSum f.dst + addressByteSum f.src + segment.val) % 256, Nat.mod_lt _ (by decide)⟩

/-- Why the engine refuses a copy or a frame (R46). -/
inductive RefusalReason where
  | policy
  | unavailable
  deriving DecidableEq, Repr

/-- What step 5 of R38 yields: the copies that passed, and a reason for each refused copy or frame. -/
structure CopyList where
  copies : List Port
  refusals : List RefusalReason
  deriving DecidableEq, Repr

/-- R41: the isolation check. -/
def isolated (s : State) (t : TenantId) (egress : Port) : Bool :=
  ((appliedBinding s egress).map Binding.tenant) == some t

/-- R40: the checks of a copy to a station port. -/
def stationCopy (s : State) (t : TenantId) (egress : Port) : CopyList :=
  if s.ports[egress].link ≠ .up then ⟨[], [.unavailable]⟩
  else if isolated s t egress then ⟨[egress], []⟩
  else ⟨[], [.policy]⟩

/-- R43, R44: the station ports a flood reaches: UP, bound to the segment, not the ingress port. -/
def floodPorts (s : State) (segment : SegmentId) (ingress : Port) : List Port :=
  (List.finRange 40).filter fun q =>
    isStation q && q ≠ ingress && s.ports[q].link == .up &&
      ((appliedBinding s q).map Binding.segment) == some segment

/-- R41, R43: the station copies of a flood with their isolation checks. -/
def floodStations (s : State) (c : Classified) (ingress : Port) : CopyList :=
  let candidates := floodPorts s c.segment ingress
  { copies := candidates.filter (isolated s c.tenant)
    refusals := (candidates.filter fun q => !isolated s c.tenant q).map fun _ => .policy }

/-- The segment's present trunk_group. -/
def segmentGroup (s : State) (segment : SegmentId) : Option Group :=
  (s.directory.segments[segment]).bind Segment.trunkGroup

/-- R43: the trunk copy of a flood: the selected member of the segment's trunk group, if it has one UP. -/
def floodTrunk (s : State) (c : Classified) (h : Fin 256) : List Port :=
  match segmentGroup s c.segment with
  | some g => (selectMember s g h).toList
  | none => []

/-- R42: the copy to a trunk group. -/
def trunkCopy (s : State) (c : Classified) (g : Group) (h : Fin 256) : CopyList :=
  if segmentGroup s c.segment ≠ some g then ⟨[], [.policy]⟩
  else
    match selectMember s g h with
    | some m => ⟨[m], []⟩
    | none => ⟨[], [.unavailable]⟩

/-- R40, R42, R43: the copy list of a frame received on a station port (Table 3-2). -/
def copyListStation (s : State) (c : Classified) (ingress : Port) (dest : Option Target)
    (h : Fin 256) : CopyList :=
  match dest with
  | some (.port q) =>
    if (asPort q) = ingress then ⟨[], []⟩ else stationCopy s c.tenant (asPort q)
  | some (.group g) => trunkCopy s c g h
  | none =>
    let stations := floodStations s c ingress
    { stations with copies := stations.copies ++ floodTrunk s c h }

/-- R44: the copy list of a frame received on a trunk port. -/
def copyListTrunk (s : State) (c : Classified) (ingress : Port) (dest : Option Target) : CopyList :=
  match dest with
  | some (.port q) => stationCopy s c.tenant (asPort q)
  | some (.group _) => ⟨[], [.policy]⟩
  | none => floodStations s c ingress

/-- R39 to R44: the copy list of a frame. -/
def copyList (s : State) (c : Classified) (ingress : Port) (dest : Option Target) (h : Fin 256) :
    CopyList :=
  if isStation ingress then copyListStation s c ingress dest h else copyListTrunk s c ingress dest

/-- R46, R47: the refusals of a decision reported and counted. -/
def reportRefusals (t : TenantId) (p : Port) (length : Nat) (reasons : List RefusalReason) (s : State) :
    State :=
  reasons.foldl
    (fun acc r =>
      match r with
      | .policy => refusePolicy t p length acc
      | .unavailable => refuseUnavailable t p length acc) s

/-- R38, steps 3 to 6: the lookup, the flow hash, the copy list and the outcome (Table 3-1). -/
def forward (c : Classified) (p : Port) (f : DataFrame) (s : State) : State :=
  let h := flowHash c.segment f
  let list := copyList s c p (lookupDestination s c.segment f.dst) h
  let t := reportRefusals c.tenant p f.length list.refusals s
  if list.copies.isEmpty then
    if list.refusals.isEmpty then countFiltered p t else t
  else
    admission
      { tenant := c.tenant, ingress := p, cls := c.cls, flowHash := h, data := f,
        copies := list.copies } t

/-- R17, R38: classification and the forwarding decision of a frame. -/
def decideFrame (p : Port) (f : DataFrame) (s : State) : State :=
  match classify s p f with
  | none => refusePolicy 0 p f.length s
  | some c =>
    let (t, spoof) := sourceCheck c p f.src s
    if spoof then refusePolicy c.tenant p f.length t else forward c p f t

end Sys2Proof.Machine
end

