-- ==== Sys2Proof/Machine/Stations.lean ====
section
/-! DEFINITION. The requests to the Station Table and the aging sweep (chapter 2): each owner takes a
request's body, of an allowed length, and answers. -/

namespace Sys2Proof.Machine

open Sys2Proof

/-- R34: the checks of STATION-ADD on its operands (Table 2-5, checks 2 to 5). -/
def stationAddCheck (s : State) (segment : SegmentId) (a : StationAddr) (target : Target) :
    Option Status :=
  match s.directory.segments[segment] with
  | none => some .value
  | some seg =>
    let targetBad : Bool := match target with
      | .port q =>
        s.directory.applied[q] != some { tenant := seg.owner, segment := segment } ||
          s.directory.staged[q].isSome
      | .group g => seg.trunkGroup != some g
    if targetBad then some .value
    else if (findEntry? s segment a).isNone && 4 ≤ bucketUse s (bucketOf segment a) then some .full
    else none

/-- R34: the entry pinned. -/
def pinStation (segment : SegmentId) (a : StationAddr) (target : Target) (owner : TenantId) (s : State) :
    State :=
  match findEntry? s segment a with
  | none =>
    placeEntry { segment := segment, address := a, kind := .fixed, target := target, tenant := owner } s
  | some _ => modEntry segment a (fun e => { e with kind := .fixed, target := target }) s

/-- R34: STATION-ADD. -/
def stationAdd (body : List Byte) (s : State) : State × Answer :=
  let a := addressAt body 2
  match segmentOf? (field body 0 2), targetOf? (field body 8 1) with
  | some segment, some target =>
    if isGroupAddress a then refuse .value s
    else
      match stationAddCheck s segment a target with
      | some st => refuse st s
      | none =>
        let owner := ((s.directory.segments[segment]).map Segment.owner).getD 0
        (pinStation segment a target owner s, ⟨.ok, []⟩)
  | _, _ => refuse .value s

/-- R35, R36: the entry that a segment and address of a body name, or the status of the refusal. -/
def namedEntry (body : List Byte) (s : State) : Except Status StationEntry :=
  let a := addressAt body 2
  match segmentOf? (field body 0 2) with
  | none => .error .value
  | some segment =>
    if isGroupAddress a then .error .value
    else
      match findEntry? s segment a with
      | none => .error .notFound
      | some e => .ok e

/-- R35: STATION-REMOVE. -/
def stationRemove (body : List Byte) (s : State) : State × Answer :=
  match namedEntry body s with
  | .error st => refuse st s
  | .ok e =>
    (removeEntries (fun x => x.segment == e.segment && x.address == e.address) s,
      ⟨.ok, bytesOf 1 e.kind.code ++ bytesOf 1 e.target.code⟩)

/-- R36: STATION-FIND. -/
def stationFind (body : List Byte) (s : State) : State × Answer :=
  match namedEntry body s with
  | .error st => refuse st s
  | .ok e =>
    (s, ⟨.ok, bytesOf 1 e.kind.code ++ bytesOf 1 e.target.code ++ bytesOf 1 e.kind.seenCode ++
      bytesOf 1 e.tenant.val ++ bytesOf 2 (bucketOf e.segment e.address)⟩)

/-- R37: STATION-FLUSH, of one segment or, for 0, of the whole table. -/
def stationFlush (body : List Byte) (s : State) : State × Answer :=
  let n := field body 0 2
  let done (t : State) : State × Answer :=
    (t, ⟨.ok, bytesOf 2 (s.stations.entries.length - t.stations.entries.length)⟩)
  if n = 0 then done (removeEntries StationEntry.isLearned s)
  else
    match segmentOf? n with
    | some segment => done (flushSegment segment s)
    | none => refuse .value s

/-- The number of full buckets (R30). -/
def fullBuckets (s : State) : Nat :=
  (List.range 1024).countP fun b => 4 ≤ bucketUse s b

/-- R30: the summary figures, the defined tenants in ascending order (log 25). -/
def stationSummary (s : State) : List Byte :=
  let tenants := definedTenants s
  bytesOf 2 s.stations.sweepPeriod ++ bytesOf 2 (s.stations.sweepElapsed / 1000000) ++
    bytesOf 2 (s.stations.entries.countP StationEntry.isLearned) ++
    bytesOf 2 (s.stations.entries.countP fun e => !e.isLearned) ++ bytesOf 2 (fullBuckets s) ++
    bytesOf 4 s.stations.moves.toNat ++ bytesOf 4 s.stations.refusedBucket.toNat ++
    bytesOf 1 tenants.length ++
    tenants.flatMap fun t =>
      bytesOf 1 t.val ++ bytesOf 2 (learnedCount s t) ++ bytesOf 4 s.stations.refusedLimit[t].toNat

/-- R27, R30: the sweep period set, the timer started again from zero. -/
def setSweepPeriod (secs : Nat) (s : State) : State :=
  { s with stations := { s.stations with sweepPeriod := secs, sweepElapsed := 0 } }

/-- R30: STATION-STATUS. -/
def stationStatus (body : List Byte) (s : State) : State × Answer :=
  let secs := field body 0 2
  if body.isEmpty then (s, ⟨.ok, stationSummary s⟩)
  else if 1 ≤ secs ∧ secs ≤ 3600 then
    let t := setSweepPeriod secs s
    (t, ⟨.ok, stationSummary t⟩)
  else refuse .value s

/-- R28: what a sweep leaves of an entry. -/
def sweepEntry (e : StationEntry) : Option StationEntry :=
  match e.kind with
  | .fixed => some e
  | .learned true => some { e with kind := .learned false }
  | .learned false => none

/-- R27: whether the sweep timer has reached the sweep period. -/
def sweepDue (s : State) : Bool := sToUs s.stations.sweepPeriod ≤ s.stations.sweepElapsed

/-- R28: the sweep, after which the timer starts again from zero (R27). -/
def sweep (s : State) : State :=
  modEntries (fun es => es.filterMap sweepEntry)
    { s with stations := { s.stations with sweepElapsed := 0 } }

end Sys2Proof.Machine
end

