-- ==== Sys2Proof/Machine/Lines.lean ====
section
/-! DEFINITION. What line events, timer events and base ticks do (chapters 4 to 8). Each definition takes
the event as one that occurs: the commands check that it does (log 4). -/

namespace Sys2Proof.Machine

open Sys2Proof

/-! ### Receptions (R104, R110) -/

/-- R104: the beginning of a reception notes the link state. -/
def noteReception (p : Port) : State → State :=
  modPort p fun u =>
    { u with
      reception := some { noted := u.link, changed := false, cut := false, silencedAt := none } }

/-- The reception that arrives; where the interface reported no beginning it began at its arrival
(log 15). -/
def receptionOf (s : State) (p : Port) : Reception :=
  s.ports[p].reception.getD
    { noted := s.ports[p].link, changed := false, cut := false, silencedAt := none }

/-- R110, R104: at every frame arrival the reception is over, and a station port in UP loads its quiet
timer and is quiet no more. -/
def arrive (p : Port) : State → State :=
  modPort p fun u =>
    if isStation p && u.link == .up then
      { u with reception := none, quiet := false, quietTimer := some (msToUs u.config.quietMs) }
    else { u with reception := none }

/-- Whether the link state has the port receive: UP, PROBING and DOWN (Table 6-4). -/
def receives (l : LinkState) : Bool := l == .up || l == .probing || l == .down

/-- R104: whether a data frame counts as one with a bad check. -/
def isBadFrame (f : DataFrame) : Bool := !f.goodCheck || f.length < 64 || 9216 < f.length

/-- R104, Table 6-4: the arrival of a data frame. -/
def dataArrival (p : Port) (f : DataFrame) (s : State) : State :=
  let r := receptionOf s p
  let t := arrive p s
  if r.cut || !receives s.ports[p].link then t
  else if isBadFrame f then errorEvent p t
  else if s.ports[p].link = .up ∧ r.changed = false then decideFrame p f t
  else t

/-! ### Peer pause (R71) -/

/-- R71: a release: peer_paused clears, and the scheduler selects. -/
def releasePeer (p : Port) (s : State) : State :=
  if s.ports[p].peerPause.isSome then schedule p (modPort p (fun u => { u with peerPause := none }) s)
  else s

/-- R71: a pause of time 1 to 65,535 loads the timer; a pause of time 0 is a release. -/
def pausePeer (p : Port) (time : BitVec 16) (s : State) : State :=
  if time = 0 then releasePeer p s else modPort p (fun u => { u with peerPause := some time.toNat }) s

/-- R104, R71: the arrival of a pause or release frame, which `act` consumes. -/
def controlArrival (p : Port) (act : State → State) (s : State) : State :=
  let t := arrive p s
  if (receptionOf s p).cut || !receives s.ports[p].link then t else act t

/-! ### Beacons (R107, R108) -/

/-- R108: whether a beacon of that count is a gap: it does not follow the reference. -/
def isGap (reference : Option (Fin 4)) (count : Fin 4) : Bool :=
  match reference with
  | some r => count != r + 1
  | none => false

/-- R108: a beacon counted and shown, in every state but DISABLED. -/
def countBeacon (p : Port) (count : Fin 4) : State → State :=
  modPort p fun u => { u with beaconsReceived := u.beaconsReceived + 1, lastBeacon := some count }

/-- R108: the check of a beacon in PROBING and UP: the reference becomes its count, a gap is counted, and
in UP the silence timer restarts. -/
def checkBeacon (p : Port) (count : Fin 4) (s : State) : State :=
  let gap := isGap s.ports[p].reference count
  let s := modPort p
    (fun u =>
      { u with
        reference := some count
        silence := if u.link = .up then some 0 else u.silence
        gapCount := if gap then u.gapCount + 1 else u.gapCount }) s
  if gap then errorEvent p s else s

/-- R104: whether a fence or disable since its reception began discards a beacon. R109 counts the beacon
that arrives in the same instant as the SILENT fence that has cut it (log 15). -/
def beaconCut (r : Reception) (now : BitVec 48) : Bool := r.cut && r.silencedAt != some now

/-- R104, R108: the arrival of a beacon. -/
def beaconArrival (p : Port) (count : Fin 4) (s : State) : State :=
  let t := arrive p s
  if isStation p || s.ports[p].link == .disabled || beaconCut (receptionOf s p) s.now then t
  else
    match s.ports[p].link with
    | .up => checkBeacon p count (countBeacon p count t)
    | .probing => checkBeacon p count (countBeacon p count t)
    | _ => countBeacon p count t

/-- R107: the beacon interval elapses: the next beacon is handed and the timer loaded again. -/
def nextBeacon (p : Port) (s : State) : State :=
  modPort p (fun u => { u with beaconTimer := some (msToUs u.config.beaconMs) }) (handBeacon p s)

/-! ### Quiet and silence (R109, R110) -/

/-- R109: the length the silence timer runs to, as both fields stand. -/
def silenceLimit (u : PortUnit) : Nat := msToUs (u.config.missLimit * u.config.beaconMs)

/-- Whether the silence timer runs and has reached its limit. -/
def silenceDue (u : PortUnit) : Bool :=
  match u.silence with
  | some e => u.link == .up && silenceLimit u ≤ e
  | none => false

/-- R110: quiet becomes yes, the timer stops, the QUIET flag is raised. -/
def becomeQuiet (p : Port) (s : State) : State :=
  raiseQuiet p (modPort p (fun u => { u with quiet := true, quietTimer := none }) s)

/-! ### Line-good and qualification (R113, R120) -/

/-- R113, R121: a drop of line-good acted on by link state. -/
def dropLine (p : Port) (s : State) : State :=
  let t := spoilMeasurement p (modPort p (fun u => { u with lineGood := false }) s)
  match s.ports[p].link with
  | .up => fence p .lineLost t
  | .probing => enterDown p (withdraw p t)
  | .down => modPort p (fun u => { u with qualification := none }) t
  | _ => t

/-- R113: a rise of line-good; in DOWN it starts qualification. -/
def raiseLine (p : Port) (s : State) : State :=
  let t := modPort p (fun u => { u with lineGood := true }) s
  if s.ports[p].link = .down then startQualification p t else t

/-- R120: qualification is complete: the port enters PROBING and files its recovery request. -/
def enterProbing (p : Port) (s : State) : State :=
  fileRecovery p
    (modPort p (fun u => { u with reference := none, qualification := none }) (setLink p .probing s))

/-! ### Breaks (R111, R112) -/

/-- R112: the time a received break lasts before it is detected, 1 ms. -/
def breakUs : Nat := 1000

/-- R112: whether a received break has lasted 1 ms and has not been detected yet. -/
def breakDue (u : PortUnit) : Bool :=
  match u.receivedBreak with
  | some b => b.left == 0 && !b.detected
  | none => false

/-- R112: the detection of a received break, in the state the port then has; DISABLED neither measures nor
counts it, so that it is over with no effect. -/
def detectBreak (p : Port) (s : State) : State :=
  let t := modPort p
    (fun u => { u with receivedBreak := u.receivedBreak.map fun b => { b with detected := true } }) s
  match s.ports[p].link with
  | .disabled => t
  | .up => fence p .peerBreak (modPort p (fun u => { u with breaksReceived := u.breaksReceived + 1 }) t)
  | _ => modPort p (fun u => { u with breaksReceived := u.breaksReceived + 1 }) t

/-- R112: a received break ends; one that has lasted 1 ms is detected at the latest here (log 14). -/
def endReceivedBreak (p : Port) (s : State) : State :=
  let t := if breakDue s.ports[p] then detectBreak p s else s
  modPort p (fun u => { u with receivedBreak := none }) t

/-! ### The timers of fault recovery (R106, R125 to R127) -/

/-- R106: a window ends and a new one starts. -/
def nextErrorWindow (p : Port) : State → State := startErrorWindow p

/-- R126: the length of the steady timer, 10 seconds. -/
def steadyUs : Nat := 10000000

/-- Whether the steady timer runs and has reached 10 seconds. -/
def steadyDue (u : PortUnit) : Bool :=
  match u.steady with
  | some e => steadyUs ≤ e
  | none => false

/-- R126: the steady timer completes: the step becomes 0 and the timer stops. -/
def completeSteady (p : Port) : State → State :=
  modPort p fun u => { u with holddownStep := 0, steady := none }

/-- R125: the flap window expires: it closes and the flap count becomes 0. -/
def closeFlapWindow (p : Port) : State → State :=
  modPort p fun u => { u with flapCount := 0, flapWindow := none }

/-- R127: the hold-down expires: the port enters DOWN. -/
def endHolddown (p : Port) (s : State) : State :=
  enterDown p (modPort p (fun u => { u with holddown := none }) s)

/-! ### Measurements (R138, R139) -/

/-- R121, R139: a recovery result handed to a port in PROBING, which acts on it if it answers the present
request. -/
def takeResult (p : Port) (id margin : Nat) (s : State) : State :=
  if s.ports[p].presentRequest ≠ some id then s
  else if s.ports[p].config.marginThreshold ≤ margin then enterUp p s
  else fence p .marginLow s

/-- R139: the delivery of a result by the origin of its request. A host result of a port that has left the
state of its filing and is back in it carries changed no: R139 against R140's last sentence (log 33). -/
def deliverResult (r : MeasureRequest) (margin : Nat) (s : State) : State :=
  match r.origin with
  | .recovery => if s.ports[r.port].link = .probing then takeResult r.port r.id margin s else s
  | .host =>
    raiseMeasureDone
      { port := r.port
        outcome := .done (BitVec.ofNat 8 margin) (s.ports[r.port].link != r.filed) } s

/-- Whether a measurement has lasted its 2 ms. -/
def measurementDue (s : State) : Bool :=
  match s.measurement.inProgress with
  | some i => i.left == 0
  | none => false

/-- R138: the completion: the result is delivered, the request in progress cleared, and the next
measurement begins. -/
def completeMeasurement (raw : Byte) (s : State) : State :=
  match s.measurement.inProgress with
  | none => s
  | some i =>
    let t := deliverResult i.request (marginOf s.measurement.offset i.lineBad raw) s
    beginMeasurement { t with measurement := { t.measurement with inProgress := none } }

/-! ### The passing of time (section 0.7, R92) -/

/-- A countdown after n microseconds. -/
def passCountdown (n : Nat) (t : Countdown) : Countdown := t.map (· - n)

/-- A timer after n microseconds. -/
def passElapsed (n : Nat) (t : Elapsed) : Elapsed := t.map (· + n)

/-- R112: a received break after n microseconds in a link state. One whose first millisecond has ended in
DISABLED is not detected there, and no more later (log 14). -/
def passBreak (link : LinkState) (n : Nat) (b : ReceivedBreak) : ReceivedBreak :=
  { left := b.left - n, detected := b.detected || (link == .disabled && decide (b.left < n)) }

/-- The timers of a Port Unit after n microseconds. -/
def passPort (n : Nat) (u : PortUnit) : PortUnit :=
  { u with
    errorWindow := passCountdown n u.errorWindow
    beaconTimer := passCountdown n u.beaconTimer
    silence := passElapsed n u.silence
    quietTimer := passCountdown n u.quietTimer
    breakTimer := passCountdown n u.breakTimer
    receivedBreak := u.receivedBreak.map (passBreak u.link n)
    qualification := passCountdown n u.qualification
    peerPause := passCountdown n u.peerPause
    flapWindow := passCountdown n u.flapWindow
    holddown := passCountdown n u.holddown
    steady := passElapsed n u.steady }

/-- R92: the tenant a port's pacing time is charged to. -/
def pacedTenant (s : State) (p : Port) : TenantId := ((appliedBinding s p).map Binding.tenant).getD 0

/-- R92: the microseconds of the next n that a generator spends in PAUSING: a phase charges no more than
the length it was loaded with. -/
def pausingUs (n : Nat) (g : Generator) : Nat :=
  if g.state = .pausing then min n (g.timer.getD 0) else 0

/-- R92: n microseconds charged for a port. -/
def chargePort (n : Nat) (p : Port) (s : State) : State :=
  reportPaced (pacedTenant s p) (pausingUs n s.relief.generators[p]) s

/-- R92: n microseconds charged for every generator in PAUSING. -/
def chargePacing (n : Nat) (s : State) : State :=
  (List.finRange 40).foldl (fun acc p => chargePort n p acc) s

/-- The timers of the shared blocks, of the ports, of the generators and of the link's receiver after n
microseconds. -/
def passTimers (n : Nat) (s : State) : State :=
  { s with
    now := s.now + BitVec.ofNat 48 n
    link := { s.link with gap := passElapsed n s.link.gap }
    stations := { s.stations with sweepElapsed := s.stations.sweepElapsed + n }
    ports := Vector.ofFn fun p : Port => passPort n s.ports[p]
    relief := { s.relief with
      generators := Vector.ofFn fun p : Port =>
        { s.relief.generators[p] with timer := passCountdown n s.relief.generators[p].timer } }
    measurement := { s.measurement with
      inProgress := s.measurement.inProgress.map fun i => { i with left := i.left - n } }
    billing := { s.billing with
      tickElapsed :=
        if s.billing.state = .stopped then s.billing.tickElapsed else s.billing.tickElapsed + n } }

/-- The passing of n base ticks (log 5). -/
def passTicks (n : Nat) (s : State) : State := passTimers n (chargePacing n s)

end Sys2Proof.Machine
end

