-- ==== Sys2Proof/Machine/Ports.lean ====
section
/-! DEFINITION. The requests to the Port Units and to the Measurement Engine (chapters 6, 7 and 8). -/

namespace Sys2Proof.Machine

open Sys2Proof

/-! ### Writing the configured record (R100 to R102) -/

/-- R102, R109: a write of beacon_ms or miss_limit restarts a running silence timer. -/
def restartSilence (pairs : List (ConfigField × Nat)) (p : Port) (s : State) : State :=
  if (pairValue pairs .beaconMs).isSome || (pairValue pairs .missLimit).isSome then
    modPort p (fun u => { u with silence := u.silence.map fun _ => 0 }) s
  else s

/-- Whether every pair names a field the port's record has, with a value in its range. -/
def pairsInRange (p : Port) (pairs : List (ConfigField × Nat)) : Bool :=
  pairs.all fun fv => fv.1.onPort p && fv.1.inRange fv.2

/-- The record of a port after a write, as the reply carries it. -/
def configAnswer (p : Port) (s : State) : State × Answer := (s, ⟨.ok, s.ports[p].config.bytes⟩)

/-- R100: a PORT-SET for a port. A disable is no part of it: a port it finds is DISABLED. An enable that
finds line_good no latches LINE_LOST (R115, R116, log 31). -/
def setPort (p : Port) (pairs : List (ConfigField × Nat)) (s : State) : State × Answer :=
  let config := (s.ports[p].config).writeAll pairs
  if !pairsInRange p pairs then refuse .value s
  else if s.ports[p].link ≠ .disabled then refuse .state s
  else if config.enabled then
    match enableCheck s p config.headroomCells with
    | some st => refuse st s
    | none => configAnswer p (settle s (enablePort p config s))
  else configAnswer p (modPort p (fun u => { u with config := config }) s)

/-- R100: PORT-SET. -/
def portSet (body : List Byte) (s : State) : State × Answer :=
  match portOf? (field body 0 1) with
  | none => refuse .value s
  | some p => setPort p (portSetPairs p body) s

/-- R101, check 1: a field the record lacks, a field named twice, or a value outside its range. -/
def adjustBad (p : Port) (pairs : List (ConfigField × Nat)) : Bool :=
  !pairsInRange p pairs || decide ¬ (pairs.map Prod.fst).Nodup

/-- R101: what a PORT-ADJUST that passes does: an enable, a disable, or the write alone. An enable that
finds line_good no latches LINE_LOST (R115, R116, log 31). -/
def adjustApply (p : Port) (pairs : List (ConfigField × Nat)) (s : State) : State :=
  let config := (s.ports[p].config).writeAll pairs
  let write (s : State) : State := modPort p (fun u => { u with config := config }) s
  match pairValue pairs .enabled, s.ports[p].link with
  | some 1, .disabled => settle s (enablePort p config s)
  | some 0, .disabled => write s
  | some 0, _ => settle s (disablePort p (write s))
  | _, _ => restartSilence pairs p (write s)

/-- R101: a PORT-ADJUST for a port. -/
def adjustPort (p : Port) (pairs : List (ConfigField × Nat)) (s : State) : State × Answer :=
  let disabled : Bool := s.ports[p].link == .disabled
  if adjustBad p pairs then refuse .value s
  else if (pairValue pairs .headroomCells).isSome && !disabled then refuse .state s
  else
    match (if pairValue pairs .enabled = some 1 ∧ disabled then
        enableCheck s p ((s.ports[p].config).writeAll pairs).headroomCells else none) with
    | some st => refuse st s
    | none => configAnswer p (adjustApply p pairs s)

/-- R101: PORT-ADJUST. -/
def portAdjust (body : List Byte) (s : State) : State × Answer :=
  match portOf? (field body 0 1), adjustPairs (body.drop 1) with
  | some p, some pairs => adjustPort p pairs s
  | _, _ => refuse .value s

/-! ### Reports and release -/

/-- Table 10-10: the observed status, 40 bytes. -/
def statusBytes (s : State) (p : Port) : List Byte :=
  let u := s.ports[p]
  let paced := s.relief.paced[p]
  bytesOf 1 u.link.code ++ bytesOf 1 (healthCode u paced) ++ bytesOf 1 u.latched.toNat ++
    bytesOf 1 (yesNo u.lineGood) ++ bytesOf 2 u.errorCount ++ bytesOf 4 u.beaconsSent.toNat ++
    bytesOf 4 u.beaconsReceived.toNat ++ bytesOf 1 ((u.lastBeacon.map Fin.val).getD 0xFF) ++
    bytesOf 4 u.gapCount.toNat ++ bytesOf 4 u.breaksReceived.toNat ++ bytesOf 1 (yesNo u.quiet) ++
    bytesOf 1 (yesNo paced) ++ bytesOf 1 (yesNo u.peerPause.isSome) ++
    bytesOf 2 (u.peerPause.getD 0) ++ bytesOf 1 (headroomInUse s p) ++ bytesOf 1 u.flapCount ++
    bytesOf 2 (ceilDiv (u.holddown.getD 0) 1000) ++ bytesOf 4 s.forwarding.filtered[p].toNat ++
    bytesOf 4 u.spoof.toNat

/-- R103: PORT-QUERY; the building of the reply empties the latched conditions (R116). -/
def portQuery (body : List Byte) (s : State) : State × Answer :=
  match portOf? (field body 0 1) with
  | none => refuse .value s
  | some p =>
    (modPort p (fun u => { u with latched := 0 }) s,
      ⟨.ok, s.ports[p].config.bytes ++ statusBytes s p⟩)

/-- R128: a release: the flap history is cleared, the error window starts, the port enters DOWN. -/
def releasePort (p : Port) (s : State) : State :=
  enterDown p
    (startErrorWindow p (modPort p (fun u => { u with flapCount := 0, holddownStep := 0 }) s))

/-- R128: PORT-RELEASE. -/
def portRelease (body : List Byte) (s : State) : State × Answer :=
  match portOf? (field body 0 1) with
  | none => refuse .value s
  | some p =>
    if s.ports[p].link = .barred then (settle s (releasePort p s), ⟨.ok, []⟩) else refuse .state s

/-- R130, Table 10-5: the body of a PORT-FAULTS reply. -/
def faultsBytes (u : PortUnit) : List Byte :=
  bytesOf 2 u.captureCount.toNat ++ bytesOf 1 (yesNo u.capture.isSome) ++
    ((u.capture.map Capture.bytes).getD (List.replicate 18 0)) ++ bytesOf 1 u.flapCount ++
    bytesOf 2 (ceilDiv (u.flapWindow.getD 0) 1000000) ++ bytesOf 1 u.holddownStep ++
    bytesOf 2 (u.steady.getD 0 / 1000) ++ bytesOf 2 (ceilDiv (u.holddown.getD 0) 1000)

/-- R130: PORT-FAULTS; the building of the reply sets the capture's unread flag to no. -/
def portFaults (body : List Byte) (s : State) : State × Answer :=
  match portOf? (field body 0 1) with
  | none => refuse .value s
  | some p =>
    (modPort p (fun u => { u with capture := u.capture.map fun c => { c with unread := false } }) s,
      ⟨.ok, faultsBytes s.ports[p]⟩)

/-! ### The Measurement Engine's requests (R136, R141) -/

/-- R136: the requests that stand ahead of a new host request. -/
def requestsAhead (s : State) : Nat :=
  s.measurement.recovery.length + s.measurement.host.length + yesNo s.measurement.inProgress.isSome

/-- R136: LINE-MEASURE. -/
def lineMeasure (body : List Byte) (s : State) : State × Answer :=
  match portOf? (field body 0 1) with
  | none => refuse .value s
  | some p =>
    if s.ports[p].link = .disabled ∨ s.ports[p].link = .barred then refuse .state s
    else if hasPending s p || isMeasured s p then refuse .busy s
    else (fileHost p s, ⟨.accepted, bytesOf 1 (requestsAhead s)⟩)

/-- The calibration offset as a byte in two's complement (R170). -/
def offsetByte (offset : Int) : Byte := BitVec.ofInt 8 offset

/-- R141: LINE-CALIBRATE. -/
def lineCalibrate (body : List Byte) (s : State) : State × Answer :=
  let offset := offsetOf body
  if offset < -31 ∨ 31 < offset then refuse .value s
  else if s.measurement.inProgress.isSome then refuse .busy s
  else
    ({ s with measurement := { s.measurement with offset := offset } }, ⟨.ok, [offsetByte offset]⟩)

end Sys2Proof.Machine
end

