-- ==== Sys2Proof/Machine/Reports.lean ====
section
/-! DEFINITION. The requests to the Buffer Manager, the Relief Controller and the Management Link
Controller itself (chapters 4, 5 and 10). -/

namespace Sys2Proof.Machine

open Sys2Proof

/-! ### BUFFER-QUERY (R78) -/

/-- One queue of the report. -/
def queueFigures (b : Buffer) (q : List CopyEntry) : List Byte :=
  bytesOf 2 (occupancy b q) ++ bytesOf 2 q.length

/-- R78, Table 10-5: the body of the reply. -/
def bufferReport (s : State) : List Byte :=
  let b := s.buffer
  bytesOf 2 (reserve s) ++ bytesOf 2 (commonPoolSize s) ++ bytesOf 2 (commonInUse s) ++
    bytesOf 2 (commonFree s) ++ bytesOf 2 (headroomInUseAll s) ++ bytesOf 2 (freeCells s) ++
    bytesOf 2 b.records.length ++ bytesOf 2 (entriesInUse b) ++
    ((List.finRange 40).flatMap fun p => queueFigures b b.held[p] ++ queueFigures b b.bulk[p]) ++
    ((List.finRange 40).flatMap fun p =>
      bytesOf 1 (allowance s p) ++ bytesOf 1 (headroomInUse s p) ++ bytesOf 1 b.streak[p] ++
        bytesOf 1 (yesNo s.ports[p].peerPause.isSome))

/-- R78: BUFFER-QUERY. -/
def bufferQuery (_body : List Byte) (s : State) : State × Answer := (s, ⟨.ok, bufferReport s⟩)

/-! ### RELIEF-SET and RELIEF-QUERY (R80, R97) -/

/-- R80, check 1: every setting inside its range (Table 5-2). -/
def ReliefSettings.inRange (r : ReliefSettings) : Bool :=
  (1 ≤ r.bulkLimit && r.bulkLimit ≤ 16384) && r.markThreshold ≤ 16384 &&
    (1 ≤ r.heldLimit && r.heldLimit ≤ 16384) && (1 ≤ r.paceOn && r.paceOn ≤ 16384) &&
    r.paceOff ≤ 16384 && (1 ≤ r.share && r.share ≤ 16384) &&
    (1 ≤ r.pauseTime && r.pauseTime ≤ 65535) && (1 ≤ r.releaseTime && r.releaseTime ≤ 65535)

/-- R80, checks 2 and 3; R79: the two relations. -/
def ReliefSettings.related (r : ReliefSettings) : Bool :=
  r.markThreshold < r.bulkLimit && r.paceOff < r.paceOn && r.paceOn ≤ r.heldLimit

/-- R80: RELIEF-SET. -/
def reliefSet (body : List Byte) (s : State) : State × Answer :=
  let r := reliefSettingsOf body
  if r.inRange && r.related then
    ({ s with relief := { s.relief with settings := r } }, ⟨.ok, r.bytes⟩)
  else refuse .value s

/-- A generator's part of the report. -/
def generatorBytes (s : State) (p : Port) : List Byte :=
  let g := s.relief.generators[p]
  bytesOf 1 (yesNo s.relief.paced[p]) ++ bytesOf 1 g.state.code ++ bytesOf 2 (g.timer.getD 0) ++
    bytesOf 4 g.pausesSent.toNat ++ bytesOf 4 g.releasesSent.toNat

/-- A CONGESTED queue's part of the report: its occupancy and its contributors with their cells, in
ascending port order (log 25). -/
def congestedBytes (s : State) (q : Port) : List Byte :=
  let members := (List.finRange 40).filter fun p => s.relief.contributors[q][p]
  bytesOf 1 q.val ++ bytesOf 2 (occupancy s.buffer s.buffer.held[q]) ++ bytesOf 1 members.length ++
    members.flatMap fun p =>
      bytesOf 1 p.val ++ bytesOf 2 (cellsFrom s.buffer s.buffer.held[q] p)

/-- The parts that fit, in order, up to the first that does not (section 10.6). -/
def fitParts : Nat → List (List Byte) → List (List Byte)
  | _, [] => []
  | room, part :: rest =>
    if part.length ≤ room then part :: fitParts (room - part.length) rest else []

/-- The bytes left for congested queues in a body of 1,024: a status byte, 16 of settings, 480 of
generators and two counts stand before them. -/
def congestedRoom : Nat := 1024 - (1 + 16 + 40 * 12 + 2)

/-- R97, Table 10-5: the body of the reply. -/
def reliefReport (s : State) : List Byte :=
  let parts := ((List.finRange 40).filter fun q => s.relief.congested[q]).map (congestedBytes s)
  let carried := fitParts congestedRoom parts
  s.relief.settings.bytes ++ (List.finRange 40).flatMap (generatorBytes s) ++
    bytesOf 1 carried.length ++ bytesOf 1 (parts.length - carried.length) ++ carried.flatten

/-- R97: RELIEF-QUERY. -/
def reliefQuery (_body : List Byte) (s : State) : State × Answer := (s, ⟨.ok, reliefReport s⟩)

/-! ### NOTICE-MASK, HELLO and RESTART (R166, R168, R169) -/

/-- R166: NOTICE-MASK; bit 0 reads 1. -/
def noticeMask (body : List Byte) (s : State) : State × Answer :=
  let m := field body 0 2
  if 1024 ≤ m then refuse .value s
  else
    let mask : BitVec 16 := BitVec.ofNat 16 m ||| 1
    ({ s with link := { s.link with mask := mask } }, ⟨.ok, bytesOf 2 mask.toNat⟩)

/-- The silicon revision as an ASCII capital letter (R168, log 16). -/
def revisionByte : Byte := BitVec.ofNat 8 (0x41 + Config.siliconRevision.val)

/-- R168: HELLO. -/
def hello (_body : List Byte) (s : State) : State × Answer :=
  (s, ⟨.ok, [0x62, 0x28, revisionByte] ++ s.link.restartRecord.bytes ++
    bytesOf 4 s.link.linkErrors.toNat⟩)

/-- R169: RESTART; from here on no request is handed to any owner. -/
def restart (_body : List Byte) (s : State) : State × Answer :=
  ({ s with link := { s.link with restartHanded := true } }, ⟨.ok, []⟩)

end Sys2Proof.Machine
end

