-- ==== Sys2Proof/Machine/Tenants.lean ====
section
/-! DEFINITION. The requests to the Tenant Directory and to the trunk group tables (chapters 1 and 3). -/

namespace Sys2Proof.Machine

open Sys2Proof

/-- The state with a tenant's entry replaced by `f` of it. -/
def modTenant (t : TenantId) (f : Tenant → Tenant) (s : State) : State :=
  { s with directory := { s.directory with tenants := updAt s.directory.tenants t f } }

/-- The state with a segment's entry. -/
def setSegment (g : SegmentId) (seg : Option Segment) (s : State) : State :=
  { s with directory := { s.directory with segments := s.directory.segments.set g seg } }

/-- R2, R3: TENANT-DEFINE. -/
def tenantDefine (body : List Byte) (s : State) : State × Answer :=
  let held := BitVec.ofNat 8 (field body 1 1)
  let quota := field body 2 2
  let limit := field body 4 2
  match tenantOf? (field body 0 1) with
  | none => refuse .value s
  | some t =>
    if t = 0 ∨ 16384 < quota ∨ 4096 < limit then refuse .value s
    else
      let e := s.directory.tenants[t]
      if !e.defined && e.retired then refuse .state s
      else
        let s' := modTenant t
          (fun e => { e with defined := true, heldSet := held, quotaCells := quota, stationLimit := limit }) s
        (if e.defined then s' else openMetersFor t s', ⟨.ok, []⟩)

/-- R4, check 4: whether a tenant owns a segment or a station port is bound to it. -/
def hasFootprint (s : State) (t : TenantId) : Bool :=
  segmentsOwned s t != 0 || boundPorts s t != 0

/-- R4: the checks of TENANT-REMOVE after its number's (Table 1-3, checks 2 to 6). -/
def tenantRemoveCheck (s : State) (t : TenantId) : Option Status :=
  if !s.directory.tenants[t].defined then some .notFound
  else if s.billing.lock then some .locked
  else if hasFootprint s t then some .conflict
  else if 0 < resident s t then some .conflict
  else if s.billing.state ≠ .stopped ∧ freePlaces s = 0 then some .full
  else none

/-- R5: the REMOVED record of a tenant. -/
def removedRecord (s : State) (t : TenantId) : BillingRecord :=
  recordFor s t { locked := false, late := s.billing.overdue, final := false, removed := true } 0 0

/-- R5: a tenant removed. -/
def removeTenant (t : TenantId) (s : State) : State :=
  if s.billing.state = .stopped then modTenant t (fun e => { e with defined := false }) s
  else
    modTenant t (fun e => { e with defined := false, retired := true })
      (modBilling
        (fun b => { b with queue := b.queue ++ [removedRecord s t], meters := b.meters.set t none }) s)

/-- R4, R5: TENANT-REMOVE. -/
def tenantRemove (body : List Byte) (s : State) : State × Answer :=
  match tenantOf? (field body 0 1) with
  | none => refuse .value s
  | some t =>
    if t = 0 then refuse .value s
    else
      match tenantRemoveCheck s t with
      | some st => refuse st s
      | none => (removeTenant t s, ⟨.ok, []⟩)

/-- A station-port set as 4 bytes. -/
def stationSetBytes (member : StationPort → Bool) : List Byte := bytesOf 4 (setNat member)

/-- R6: TENANT-QUERY. -/
def tenantQuery (body : List Byte) (s : State) : State × Answer :=
  match tenantOf? (field body 0 1) with
  | none => refuse .value s
  | some t =>
    let e := s.directory.tenants[t]
    if !e.defined then refuse .notFound s
    else
      (s, ⟨.ok, bytesOf 1 e.heldSet.toNat ++ bytesOf 2 e.quotaCells ++ bytesOf 2 e.stationLimit ++
        bytesOf 2 (learnedCount s t) ++ bytesOf 8 (resident s t) ++ bytesOf 2 (tenantCommon s t) ++
        bytesOf 2 (tenantHeadroom s t) ++
        stationSetBytes (fun q => (s.directory.applied[q].map Binding.tenant) == some t) ++
        stationSetBytes
          (fun q => (s.directory.staged[q].bind fun b => b.map Binding.tenant) == some t) ++
        bytesOf 2 (segmentsOwned s t)⟩)

/-- R12, check 6: whether a FIXED entry names the port and belongs to another segment than the one being
bound; for none, any FIXED entry naming the port. -/
def fixedElsewhere (s : State) (q : StationPort) (binding : Option Binding) : Bool :=
  s.stations.entries.any fun e =>
    e.kind == .fixed && e.target == .port q && some e.segment != binding.map Binding.segment

/-- R12: the checks of TENANT-BIND on its pair (Table 1-4, checks 4 and 5). -/
def pairBad (s : State) (binding : Option Binding) : Bool :=
  match binding with
  | none => false
  | some b =>
    b.tenant == 0 || !s.directory.tenants[b.tenant].defined ||
      (s.directory.segments[b.segment].map Segment.owner) != some b.tenant

/-- R13: a binding applied at once; a staged one is discarded. -/
def applyBinding (q : StationPort) (binding : Option Binding) (s : State) : State :=
  { s with
    directory := { s.directory with
      applied := s.directory.applied.set q binding
      staged := s.directory.staged.set q none } }

/-- R13: a binding staged; it replaces a staged one. -/
def stageBinding (q : StationPort) (binding : Option Binding) (s : State) : State :=
  { s with directory := { s.directory with staged := s.directory.staged.set q (some binding) } }

/-- R12, R13: a TENANT-BIND whose numbers are in range. -/
def bindPort (p : Port) (binding : Option Binding) (s : State) : State × Answer :=
  match stationOf? p with
  | none => refuse .value s
  | some q =>
    if s.ports[p].link ≠ .disabled then refuse .state s
    else if pairBad s binding then refuse .value s
    else if fixedElsewhere s q binding then refuse .conflict s
    else if s.billing.lock ∧ s.billing.state ≠ .stopped then
      (stageBinding q binding s, ⟨.staged, []⟩)
    else (applyBinding q binding s, ⟨.ok, []⟩)

/-- R12, R13: TENANT-BIND; segment 0 means none, and the tenant is then disregarded (Table 10-4). -/
def tenantBind (body : List Byte) (s : State) : State × Answer :=
  match portOf? (field body 0 1) with
  | none => refuse .value s
  | some p =>
    if field body 2 2 = 0 then bindPort p none s
    else
      match tenantOf? (field body 1 1), segmentOf? (field body 2 2) with
      | some t, some g => bindPort p (some { tenant := t, segment := g }) s
      | _, _ => refuse .value s

/-- R8, R9: SEGMENT-DEFINE on operands in range. -/
def defineSegment (g : SegmentId) (owner : TenantId) (group : Option Group) (s : State) :
    State × Answer :=
  if owner = 0 ∨ s.directory.tenants[owner].defined = false then refuse .value s
  else
    match s.directory.segments[g] with
    | none => (setSegment g (some { owner := owner, trunkGroup := group }) s, ⟨.ok, []⟩)
    | some seg =>
      if seg.owner ≠ owner then refuse .conflict s
      else if seg.trunkGroup = group then (s, ⟨.ok, []⟩)
      else (flushSegment g (setSegment g (some { seg with trunkGroup := group }) s), ⟨.ok, []⟩)

/-- R8, R9: SEGMENT-DEFINE. -/
def segmentDefine (body : List Byte) (s : State) : State × Answer :=
  match segmentOf? (field body 0 2), trunkGroupOf? (field body 3 1), tenantOf? (field body 2 1) with
  | some g, some group, some owner => defineSegment g owner group s
  | _, _, _ => refuse .value s

/-- R10, check 3: whether a station port's applied or staged binding names a segment. -/
def segmentBound (s : State) (g : SegmentId) : Bool :=
  (List.finRange 32).any fun q =>
    (s.directory.applied[q].map Binding.segment) == some g ||
      (s.directory.staged[q].bind fun b => b.map Binding.segment) == some g

/-- R10: SEGMENT-REMOVE. -/
def segmentRemove (body : List Byte) (s : State) : State × Answer :=
  match segmentOf? (field body 0 2) with
  | none => refuse .value s
  | some g =>
    if s.directory.segments[g].isNone then refuse .notFound s
    else if segmentBound s g then refuse .conflict s
    else (setSegment g none (removeEntries (fun e => e.segment == g) s), ⟨.ok, []⟩)

/-! ### Trunk groups (R51, R53) -/

/-- The other group. -/
def Group.other : Group → Group
  | .a => .b
  | .b => .a

/-- R51, check 3: whether a port that the set adds or removes is not DISABLED. -/
def changesEnabled (s : State) (changed : BitVec 8) : Bool :=
  (trunkPorts changed).any fun p => s.ports[p].link != .disabled

/-- R51: TRUNK-GROUP. -/
def trunkGroup (body : List Byte) (s : State) : State × Answer :=
  match groupOf? (field body 0 1) with
  | none => refuse .value s
  | some g =>
    let set := BitVec.ofNat 8 (field body 1 1)
    if set &&& (groupTables s g.other).members ≠ 0 then refuse .conflict s
    else if changesEnabled s (set ^^^ (groupTables s g).members) then refuse .state s
    else (modGroup g (fun t => { t with members := set }) s, ⟨.ok, []⟩)

/-- R53: FORWARD-STATUS. -/
def forwardStatus (_body : List Byte) (s : State) : State × Answer :=
  let f := s.forwarding
  (s, ⟨.ok, bytesOf 1 f.groupA.members.toNat ++ bytesOf 1 f.groupA.up.toNat ++
    bytesOf 1 f.groupB.members.toNat ++ bytesOf 1 f.groupB.up.toNat ++
    (List.finRange 40).flatMap fun p =>
      bytesOf 4 f.filtered[p].toNat ++ bytesOf 4 f.refusedPolicy[p].toNat ++
        bytesOf 4 f.refusedUnavailable[p].toNat⟩)

end Sys2Proof.Machine
end

