-- ==== Sys2Proof/Machine/Management.lean ====
section
/-! DEFINITION. The Management Link Controller: the envelope, the receive assembler, the places and the
overflow slot, the handing of requests, the notices, the transmitter and the restarts (chapter 10). -/

namespace Sys2Proof.Machine

open Sys2Proof

/-- The state with the controller replaced by `f` of it. -/
def modLink (f : Link → Link) (s : State) : State := { s with link := f s.link }

/-! ### The envelope (R160) -/

/-- The marker. -/
def marker : Byte := 0xA5

/-- One bit of the check's computation. -/
def crcBit (crc : BitVec 16) : BitVec 16 := if crc.msb then (crc <<< 1) ^^^ 0x1021 else crc <<< 1

/-- One byte of the check's computation, most significant bit first. -/
def crcByte (crc : BitVec 16) (b : Byte) : BitVec 16 :=
  (List.range 8).foldl (fun c _ => crcBit c) (crc ^^^ (b.setWidth 16 <<< 8))

/-- R160: the CRC-16 of bytes: polynomial 0x1021, initial value 0xFFFF. -/
def crc16 (bytes : List Byte) : BitVec 16 := bytes.foldl crcByte 0xFFFF

/-- The bytes the check covers: kind, tag, length and body. -/
def Message.content (m : Message) : List Byte :=
  m.kind :: m.tag :: (bytesOf 2 m.body.length ++ m.body)

/-- Table 10-1: a message in its envelope. -/
def Message.encode (m : Message) : List Byte :=
  marker :: (m.content ++ bytesOf 2 (crc16 m.content).toNat)

/-! ### The receive assembler (R161) -/

/-- What the bytes after a marker make. -/
inductive Frame where
  /-- The frame is not whole yet. -/
  | unfinished
  /-- A length above 1,024 or a check that differs. -/
  | bad
  /-- A good frame, with the bytes that follow it. -/
  | good (message : Message) (rest : List Byte)
  deriving DecidableEq, Repr

/-- R161: the frame whose bytes after the marker begin a list. -/
def frameOf (bytes : List Byte) : Frame :=
  if bytes.length < 4 then .unfinished
  else
    let n := field bytes 2 2
    if 1024 < n then .bad
    else if bytes.length < n + 6 then .unfinished
    else if field bytes (4 + n) 2 = (crc16 (bytes.take (4 + n))).toNat then
      .good { kind := bytes.getD 0 0, tag := bytes.getD 1 0, body := (bytes.drop 4).take n }
        (bytes.drop (n + 6))
    else .bad

/-- What the assembler reports: a good frame, or a framing error. -/
inductive LinkEvent where
  | frame (message : Message)
  | framingError
  deriving DecidableEq, Repr

/-- R161: the assembler over the bytes from the last marker on: the events, and the bytes of the frame
still in reception. After a bad frame hunting resumes at the byte after its marker. Every step takes a
byte, so the number of bytes bounds the steps. -/
def scan : Nat → List Byte → List LinkEvent × List Byte
  | 0, bytes => ([], bytes)
  | _ + 1, [] => ([], [])
  | fuel + 1, b :: rest =>
    if b = marker then
      match frameOf rest with
      | .unfinished => ([], b :: rest)
      | .bad =>
        let (events, left) := scan fuel rest
        (.framingError :: events, left)
      | .good m after =>
        let (events, left) := scan fuel after
        (.frame m :: events, left)
    else scan fuel rest

/-- R161: the link error count rises by one. -/
def countLinkError : State → State := modLink fun l => { l with linkErrors := l.linkErrors + 1 }

/-! ### Requests (R162, R163, R169) -/

/-- Table 10-4: the owner of each request kind takes the request. -/
def handRequest (kind : Byte) (body : List Byte) (s : State) : State × Answer :=
  match kind.toNat with
  | 0x01 => tenantDefine body s
  | 0x02 => tenantRemove body s
  | 0x03 => tenantQuery body s
  | 0x04 => tenantBind body s
  | 0x05 => segmentDefine body s
  | 0x06 => segmentRemove body s
  | 0x08 => stationAdd body s
  | 0x09 => stationRemove body s
  | 0x0A => stationFind body s
  | 0x0B => stationFlush body s
  | 0x0C => stationStatus body s
  | 0x10 => trunkGroup body s
  | 0x11 => forwardStatus body s
  | 0x14 => bufferQuery body s
  | 0x18 => reliefSet body s
  | 0x19 => reliefQuery body s
  | 0x20 => portSet body s
  | 0x21 => portAdjust body s
  | 0x22 => portQuery body s
  | 0x23 => portRelease body s
  | 0x24 => portFaults body s
  | 0x28 => lineMeasure body s
  | 0x29 => lineCalibrate body s
  | 0x30 => billStart body s
  | 0x31 => billStop body s
  | 0x32 => billHold body s
  | 0x33 => billResume body s
  | 0x34 => billClose body s
  | 0x35 => billSet body s
  | 0x36 => billDrain body s
  | 0x37 => billLock body s
  | 0x38 => billQuery body s
  | 0x3C => noticeMask body s
  | 0x3D => hello body s
  | 0x3E => restart body s
  | _ => refuse .badKind s

/-- R163: the controller's checks of kind and length, then the owner. -/
def serve (kind : Byte) (body : List Byte) (s : State) : State × Answer :=
  match lengthAllowed? kind body.length with
  | none => refuse .badKind s
  | some false => refuse .badLength s
  | some true => handRequest kind body s

/-- The kind of a reply: the request's kind with its most significant bit set (R163). -/
def replyKind (kind : Byte) : Byte := kind ||| 0x80

/-- R162: the number of places. -/
def placeCount : Nat := 4

/-- A place joins the held ones. -/
def holdPlace (m : Message) (reply : Option (List Byte)) : State → State :=
  modLink fun l => { l with places := l.places ++ [{ kind := m.kind, tag := m.tag, reply := reply }] }

/-- R162: a good frame that finds all places held: its FULL reply goes into the overflow slot, or it is
discarded and counted. -/
def overflowFrame (m : Message) (s : State) : State :=
  match s.link.overflow with
  | some _ => countLinkError s
  | none =>
    modLink
      (fun l =>
        { l with
          overflow := some { kind := replyKind m.kind, tag := m.tag, body := [Status.full.code] } }) s

/-- R162, R169: a good frame: performed and answered, turned away, or, after a RESTART has been handed,
held without a reply or discarded (log 11). -/
def takeFrame (m : Message) (s : State) : State :=
  if s.link.restartHanded then
    if s.link.places.length < placeCount then holdPlace m none s else s
  else if s.link.places.length < placeCount then
    let (t, answer) := serve m.kind m.body s
    holdPlace m (some answer.body) t
  else overflowFrame m s

/-! ### Notices (R164, R165) -/

/-- The notice kinds in descending send rank (Table 10-3). -/
inductive NoticeKind where
  | ready
  | fault
  | portChange
  | billOverdue
  | epochClosed
  | measureDone
  | relief
  | stationMove
  | learnFull
  | quiet
  deriving DecidableEq, Repr

/-- The notice kinds in descending rank. -/
def NoticeKind.all : List NoticeKind :=
  [.ready, .fault, .portChange, .billOverdue, .epochClosed, .measureDone, .relief, .stationMove,
    .learnFull, .quiet]

/-- The mask bit of a kind; its code is 0x40 with the bit's number added (R166, Table 10-7). -/
def NoticeKind.index : NoticeKind → Nat
  | .ready => 0
  | .fault => 1
  | .portChange => 2
  | .billOverdue => 3
  | .epochClosed => 4
  | .measureDone => 5
  | .relief => 6
  | .stationMove => 7
  | .learnFull => 8
  | .quiet => 9

/-- The code of a notice kind (Table 10-7). -/
def NoticeKind.code (k : NoticeKind) : Byte := BitVec.ofNat 8 (0x40 + k.index)

/-- The ports of a set, ascending. -/
def portsOf (set : PortSet) : List Port := (List.finRange 40).filter fun p => set[p]

/-- A count and the parts counted. -/
def counted (parts : List (List Byte)) : List Byte := bytesOf 1 parts.length ++ parts.flatten

/-- Table 10-7: a port of a PORT-CHANGE notice. -/
def portChangeBytes (s : State) (p : Port) : List Byte :=
  let u := s.ports[p]
  bytesOf 1 p.val ++ bytesOf 1 u.link.code ++ bytesOf 1 (healthCode u s.relief.paced[p]) ++
    bytesOf 1 u.latched.toNat

/-- Table 10-7: a result of a MEASURE-DONE notice. -/
def MeasureResult.bytes (r : MeasureResult) : List Byte :=
  bytesOf 1 r.port.val ++
    match r.outcome with
    | .done margin changed => [0, margin] ++ bytesOf 1 (yesNo changed)
    | .withdrawn => [1, 0, 1]

/-- Table 10-7: a queue of a RELIEF notice. -/
def reliefBytes (s : State) (q : Port) : List Byte :=
  bytesOf 1 q.val ++ bytesOf 1 (yesNo s.relief.congested[q]) ++
    bytesOf 2 (occupancy s.buffer s.buffer.held[q])

/-- Table 10-7: the tenants of a LEARN-FULL notice with their causes. -/
def LearnFull.parts (d : LearnFull) : List (List Byte) :=
  ((List.finRange 64).filter fun t => d.limit[t] || d.bucket[t]).map fun t =>
    bytesOf 1 t.val ++ bytesOf 1 (yesNo d.limit[t] + 2 * yesNo d.bucket[t])

/-- R165, Table 10-7: the body of a notice whose flag is set, read from its detail. The ports of
a PORT-CHANGE notice and the queues of a RELIEF notice stand in ascending order (log 25). -/
def noticeBody (s : State) (k : NoticeKind) : Option (List Byte) :=
  let n := s.link.notices
  match k with
  | .ready => n.ready.map RestartRecord.bytes
  | .fault => n.fault.map portSetBytes
  | .portChange => n.portChange.map fun set => counted ((portsOf set).map (portChangeBytes s))
  | .billOverdue => n.billOverdue.map fun d => bytesOf 4 d.1.toNat ++ bytesOf 1 d.2
  | .epochClosed =>
    n.epochClosed.map fun d =>
      bytesOf 4 d.epoch.toNat ++ bytesOf 1 d.flags.code ++ bytesOf 1 d.closes
  | .measureDone => n.measureDone.map fun rs => counted (rs.map MeasureResult.bytes)
  | .relief => n.relief.map fun set => counted ((portsOf set).map (reliefBytes s))
  | .stationMove =>
    n.stationMove.map fun d =>
      bytesOf 2 d.1.val ++ bytesOf 6 d.2.toNat ++ bytesOf 4 s.stations.moves.toNat
  | .learnFull => n.learnFull.map fun d => counted d.parts
  | .quiet => n.quiet.map portSetBytes

/-- R165: a flag cleared and its detail emptied. -/
def Notices.without (n : Notices) (k : NoticeKind) : Notices :=
  match k with
  | .ready => { n with ready := none }
  | .fault => { n with fault := none }
  | .portChange => { n with portChange := none }
  | .billOverdue => { n with billOverdue := none }
  | .epochClosed => { n with epochClosed := none }
  | .measureDone => { n with measureDone := none }
  | .relief => { n with relief := none }
  | .stationMove => { n with stationMove := none }
  | .learnFull => { n with learnFull := none }
  | .quiet => { n with quiet := none }

/-- R116, R165: the building of a PORT-CHANGE notice empties the latched set of each port it names. -/
def emptyLatched (set : PortSet) (s : State) : State :=
  { s with
    ports := Vector.ofFn fun p : Port =>
      if set[p] then { s.ports[p] with latched := 0 } else s.ports[p] }

/-- R165: what the building of a notice does beside giving its body. -/
def takeNotice (k : NoticeKind) (s : State) : State :=
  let t := modNotices (fun n => n.without k) s
  match k, s.link.notices.portChange with
  | .portChange, some set => emptyLatched set t
  | _, _ => t

/-- R164: the highest-ranked kind whose flag is set and whose mask bit is on, with its body. -/
def nextNotice (s : State) : Option (NoticeKind × List Byte) :=
  NoticeKind.all.findSome? fun k =>
    if s.link.mask.getLsbD k.index then (noticeBody s k).map fun body => (k, body) else none

/-! ### The transmitter (R164) -/

/-- The sending of a frame begins. -/
def startSending (source : SendSource) (m : Message) : State → State :=
  modLink fun l => { l with sending := some { source := source, message := m } }

/-- R164: the reply of the earliest held place, if it has been built. -/
def headReply (l : Link) : Option Message :=
  l.places.head?.bind fun p =>
    p.reply.map fun body => { kind := replyKind p.kind, tag := p.tag, body := body }

/-- R164, R165: a notice is built and its sending begins. -/
def sendNotice (k : NoticeKind) (body : List Byte) (s : State) : State :=
  let m : Message := { kind := k.code, tag := s.link.noticeCount, body := body }
  modLink (fun l => { l with noticeCount := l.noticeCount + 1 })
    (startSending .notice m (takeNotice k s))

/-- R164: the choice of a free transmitter, which sends nothing in restart (R167). -/
def transmit (s : State) : State :=
  if s.link.inRestart || s.link.sending.isSome then s
  else
    match s.link.overflow, headReply s.link, nextNotice s with
    | some m, _, _ => startSending .overflow m s
    | none, some m, _ => startSending .place m s
    | none, none, some (k, body) => sendNotice k body s
    | none, none, none => s

/-- The end of an event that may have changed link states, queues or conditions: the event is settled,
and the transmitter chooses. -/
def conclude (before after : State) : State := transmit (settle before after)

/-! ### Arrivals on the link -/

/-- R161: the longest gap between two bytes of one frame, 20 ms. -/
def gapLimit : Nat := 20000

/-- R161: the assembler hunts; no frame is in reception. -/
def hunt : State → State := modLink fun l => { l with rx := [], gap := none }

/-- R161: more than 20 ms have passed since the last byte of the frame in reception: a framing error; it is
discarded, and hunting resumes with the next byte received. -/
def gapTimeout (s : State) : State :=
  if s.link.gap.any (gapLimit < ·) then countLinkError (hunt s) else s

/-- One report of the assembler taken. -/
def takeLinkEvent (s : State) : LinkEvent → State
  | .frame m => transmit (takeFrame m s)
  | .framingError => countLinkError s

/-- R161: bytes of the link taken, at least one: the assembler's reports are taken in order, the rest stays
in reception, its gap timed from here. -/
def assemble (bytes : List Byte) (s : State) : State :=
  let buffer := s.link.rx ++ bytes
  let (events, left) := scan buffer.length buffer
  modLink (fun l => { l with rx := left, gap := if left.isEmpty then none else some 0 })
    (events.foldl takeLinkEvent (hunt s))

/-- R161: bytes received without a gap between them, after the gap that stands; in restart they are lost
(R167). -/
def receiveBytes (bytes : List Byte) (s : State) : State :=
  if s.link.inRestart then s
  else if bytes.isEmpty then gapTimeout s
  else assemble bytes (gapTimeout s)

/-- The bytes of a good frame come, without a gap between them (log 7). While the assembler hunts they are that
frame, and it is taken; while a frame is in reception they continue that frame, whatever it then proves to be
(R161). In restart they are lost (R167). -/
def frameArrival (m : Message) (s : State) : State :=
  if s.link.inRestart then s
  else
    let t := gapTimeout s
    if t.link.rx.isEmpty then transmit (takeFrame m (hunt t)) else assemble m.encode t

/-! ### Restart (R167) -/

/-- R167: the restart record. -/
def restartRecordOf (cause : RestartCause) (s : State) : RestartRecord :=
  match cause with
  | .power => { cause := .power, epochOpen := .unknown, recordsLost := 0 }
  | c =>
    { cause := c
      epochOpen := if s.billing.state = .stopped then .no else .yes
      recordsLost := s.billing.queue.length }

/-- R167: a restart: every block takes its values after a restart, and the record is written. -/
def restartPart (cause : RestartCause) (lineHigh : Bool) (s : State) : State :=
  State.restarted (restartRecordOf cause s) lineHigh (Vector.ofFn fun p : Port => s.ports[p].lineGood)
    s.lineOut s.freeCount s.pending

/-- R167: the part leaves restart, and the transmitter chooses READY. -/
def leavePart (s : State) : State :=
  transmit
    { s with link := { Link.initial s.link.restartRecord true with inRestart := false } }

/-! ### The end of a sending (R162, R164, R169) -/

/-- R169: whether a frame is the OK reply to RESTART. -/
def isRestartReply (x : Sending) : Bool :=
  x.source == .place && x.message.kind == replyKind 0x3E && x.message.body == [Status.ok.code]

/-- R162: what the end of a sending frees. -/
def freeSource (source : SendSource) (l : Link) : Link :=
  match source with
  | .overflow => { l with overflow := none, sending := none }
  | .place => { l with places := l.places.drop 1, sending := none }
  | .notice => { l with sending := none }

/-- R164: the sending of a frame ends. -/
def endSending (s : State) : State :=
  match s.link.sending with
  | none => s
  | some x =>
    if isRestartReply x then restartPart .command s.link.restartLineHigh s
    else transmit (modLink (freeSource x.source) s)

end Sys2Proof.Machine
end

