-- ==== Sys2Proof/Machine/Requests.lean ====
section
/-! DEFINITION. The meanings of the commands that arrive on the management link. -/

namespace Sys2Proof.Machine

open Sys2Proof

/-- What a command answers: a next state, a fault or a refusal. -/
abbrev Answered := Host.Outcome State Fault Refusal

/-- R161 to R163: the bytes of a good frame of that kind come. -/
def request (kind tag : Byte) (body : List Byte) (s : State) : Answered :=
  .next (frameArrival { kind := kind, tag := tag, body := body } s)

/-- R2, R3: TENANT-DEFINE. -/
def execTenantDefine (tag : Byte) (body : List Byte) (s : State) : Answered := request 0x01 tag body s

/-- R4, R5: TENANT-REMOVE. -/
def execTenantRemove (tag : Byte) (body : List Byte) (s : State) : Answered := request 0x02 tag body s

/-- R6: TENANT-QUERY. -/
def execTenantQuery (tag : Byte) (body : List Byte) (s : State) : Answered := request 0x03 tag body s

/-- R12, R13: TENANT-BIND. -/
def execTenantBind (tag : Byte) (body : List Byte) (s : State) : Answered := request 0x04 tag body s

/-- R8, R9: SEGMENT-DEFINE. -/
def execSegmentDefine (tag : Byte) (body : List Byte) (s : State) : Answered := request 0x05 tag body s

/-- R10: SEGMENT-REMOVE. -/
def execSegmentRemove (tag : Byte) (body : List Byte) (s : State) : Answered := request 0x06 tag body s

/-- R34: STATION-ADD. -/
def execStationAdd (tag : Byte) (body : List Byte) (s : State) : Answered := request 0x08 tag body s

/-- R35: STATION-REMOVE. -/
def execStationRemove (tag : Byte) (body : List Byte) (s : State) : Answered := request 0x09 tag body s

/-- R36: STATION-FIND. -/
def execStationFind (tag : Byte) (body : List Byte) (s : State) : Answered := request 0x0A tag body s

/-- R37: STATION-FLUSH. -/
def execStationFlush (tag : Byte) (body : List Byte) (s : State) : Answered := request 0x0B tag body s

/-- R30: STATION-STATUS. -/
def execStationStatus (tag : Byte) (body : List Byte) (s : State) : Answered := request 0x0C tag body s

/-- R51: TRUNK-GROUP. -/
def execTrunkGroup (tag : Byte) (body : List Byte) (s : State) : Answered := request 0x10 tag body s

/-- R53: FORWARD-STATUS. -/
def execForwardStatus (tag : Byte) (body : List Byte) (s : State) : Answered := request 0x11 tag body s

/-- R78: BUFFER-QUERY. -/
def execBufferQuery (tag : Byte) (body : List Byte) (s : State) : Answered := request 0x14 tag body s

/-- R80: RELIEF-SET. -/
def execReliefSet (tag : Byte) (body : List Byte) (s : State) : Answered := request 0x18 tag body s

/-- R97: RELIEF-QUERY. -/
def execReliefQuery (tag : Byte) (body : List Byte) (s : State) : Answered := request 0x19 tag body s

/-- R100: PORT-SET. -/
def execPortSet (tag : Byte) (body : List Byte) (s : State) : Answered := request 0x20 tag body s

/-- R101: PORT-ADJUST. -/
def execPortAdjust (tag : Byte) (body : List Byte) (s : State) : Answered := request 0x21 tag body s

/-- R103: PORT-QUERY. -/
def execPortQuery (tag : Byte) (body : List Byte) (s : State) : Answered := request 0x22 tag body s

/-- R128: PORT-RELEASE. -/
def execPortRelease (tag : Byte) (body : List Byte) (s : State) : Answered := request 0x23 tag body s

/-- R130: PORT-FAULTS. -/
def execPortFaults (tag : Byte) (body : List Byte) (s : State) : Answered := request 0x24 tag body s

/-- R136: LINE-MEASURE. -/
def execLineMeasure (tag : Byte) (body : List Byte) (s : State) : Answered := request 0x28 tag body s

/-- R141: LINE-CALIBRATE. -/
def execLineCalibrate (tag : Byte) (body : List Byte) (s : State) : Answered := request 0x29 tag body s

/-- R146: BILL-START. -/
def execBillStart (tag : Byte) (body : List Byte) (s : State) : Answered := request 0x30 tag body s

/-- R153: BILL-STOP. -/
def execBillStop (tag : Byte) (body : List Byte) (s : State) : Answered := request 0x31 tag body s

/-- R147: BILL-HOLD. -/
def execBillHold (tag : Byte) (body : List Byte) (s : State) : Answered := request 0x32 tag body s

/-- R147: BILL-RESUME. -/
def execBillResume (tag : Byte) (body : List Byte) (s : State) : Answered := request 0x33 tag body s

/-- R153: BILL-CLOSE. -/
def execBillClose (tag : Byte) (body : List Byte) (s : State) : Answered := request 0x34 tag body s

/-- R149: BILL-SET. -/
def execBillSet (tag : Byte) (body : List Byte) (s : State) : Answered := request 0x35 tag body s

/-- R155: BILL-DRAIN. -/
def execBillDrain (tag : Byte) (body : List Byte) (s : State) : Answered := request 0x36 tag body s

/-- R156: BILL-LOCK. -/
def execBillLock (tag : Byte) (body : List Byte) (s : State) : Answered := request 0x37 tag body s

/-- R157: BILL-QUERY. -/
def execBillQuery (tag : Byte) (body : List Byte) (s : State) : Answered := request 0x38 tag body s

/-- R166: NOTICE-MASK. -/
def execNoticeMask (tag : Byte) (body : List Byte) (s : State) : Answered := request 0x3C tag body s

/-- R168: HELLO. -/
def execHello (tag : Byte) (body : List Byte) (s : State) : Answered := request 0x3D tag body s

/-- R169: RESTART. -/
def execRestart (tag : Byte) (body : List Byte) (s : State) : Answered := request 0x3E tag body s

/-- The body of a PORT-ADJUST whose one pair writes enabled (R101, Table 10-4). -/
def enabledBody (port : Byte) (enabled : Bool) : List Byte := [port, 1, 0, if enabled then 1 else 0]

/-- R118: the enable (log 6). -/
def execEnable (tag port : Byte) (s : State) : Answered := request 0x21 tag (enabledBody port true) s

/-- R119: the disable (log 6). -/
def execDisable (tag port : Byte) (s : State) : Answered := request 0x21 tag (enabledBody port false) s

/-- R163: a good frame whose kind is no request kind; of a request kind it is that request (log 8). -/
def execBadKind (kind tag : Byte) (body : List Byte) (s : State) : Answered := request kind tag body s

/-- R162: a good frame that finds all four places held; where one is free it takes it (log 8). -/
def execRequestOverflow (kind tag : Byte) (body : List Byte) (s : State) : Answered :=
  request kind tag body s

/-- R161: bytes received that make a framing error (log 7). -/
def execFramingError (bytes : List Byte) (s : State) : Answered := .next (receiveBytes bytes s)

/-- R161: a gap of more than 20 ms since the last byte of the frame in reception is a framing error; the
bytes that the command brings come after it and begin the next gap (log 7). -/
def execByteGapTimeout (bytes : List Byte) (s : State) : Answered := .next (receiveBytes bytes s)

/-- R164: the transmitter finishes sending a frame; while it sends none nothing ends (log 4). -/
def execFrameSendEnd (s : State) : Answered := .next (endSending s)

/-- R167: power is applied. -/
def execPowerRestart (s : State) : Answered := .next (restartPart .power s.link.restartLineHigh s)

/-- R167: the restart line falls; a line that is low already does not fall (log 4). -/
def execPinRestart (s : State) : Answered :=
  .next (if s.link.restartLineHigh then restartPart .pin false s else s)

/-- R167: the part leaves restart; a part that is not in restart does not leave it (log 4). -/
def execLeaveRestart (s : State) : Answered := .next (if s.link.inRestart then leavePart s else s)

end Sys2Proof.Machine
end

