-- ==== Sys2Proof/Machine/Events.lean ====
section
/-! DEFINITION. The meanings of line events, timer events and base ticks. A timer's event occurs only once
its timer has reached its length, and a line's only where the line can show it; an event that does not
occur changes nothing (log 4). -/

namespace Sys2Proof.Machine

open Sys2Proof

/-- An event that occurs where `due` holds. -/
def occurs (due : Bool) (event : State → State) (s : State) : Answered :=
  .next (if due then event s else s)

/-- Whether a countdown has reached its end. -/
def elapsed (t : Countdown) : Bool := t == some 0

/-- R104: a frame's reception begins. -/
def execFrameReceptionBegin (p : Port) (s : State) : Answered := .next (noteReception p s)

/-- R104: a data frame arrives. -/
def execDataFrameArrival (p : Port) (f : DataFrame) (s : State) : Answered :=
  .next (conclude s (dataArrival p f s))

/-- R69: a transmission completes; a port that sends no data frame has none to complete. -/
def execTransmissionCompletion (p : Port) (s : State) : Answered :=
  .next
    (match sendingClass s p with
      | some cls => conclude s (completeHead cls p s)
      | none => s)

/-- R71: a pause frame arrives. -/
def execPauseFrameReceived (p : Port) (time : BitVec 16) (s : State) : Answered :=
  .next (controlArrival p (pausePeer p time) s)

/-- R71: a release frame arrives. -/
def execReleaseFrameReceived (p : Port) (s : State) : Answered :=
  .next (controlArrival p (releasePeer p) s)

/-- R71: the peer-pause timer expires. -/
def execPeerPauseExpiry (p : Port) (s : State) : Answered :=
  occurs (elapsed s.ports[p].peerPause) (releasePeer p) s

/-- R108: a beacon arrives. -/
def execBeaconReceived (p : Port) (count : Fin 4) (s : State) : Answered :=
  .next (conclude s (beaconArrival p count s))

/-- R107: the beacon interval elapses. -/
def execBeaconTimerExpiry (p : Port) (s : State) : Answered :=
  occurs (elapsed s.ports[p].beaconTimer) (nextBeacon p) s

/-- R106: the error window ends. -/
def execErrorWindowEnd (p : Port) (s : State) : Answered :=
  occurs (elapsed s.ports[p].errorWindow) (nextErrorWindow p) s

/-- R109: the silence timer reaches its limit: a SILENT fault. -/
def execSilenceTimerExpiry (p : Port) (s : State) : Answered :=
  occurs (silenceDue s.ports[p]) (fun s => conclude s (fence p .silent s)) s

/-- R110: the quiet timer reaches its length. -/
def execQuietTimerExpiry (p : Port) (s : State) : Answered :=
  occurs (elapsed s.ports[p].quietTimer) (fun s => conclude s (becomeQuiet p s)) s

/-- R113: line-good drops. -/
def execLineGoodDrop (p : Port) (s : State) : Answered :=
  occurs s.ports[p].lineGood (fun s => conclude s (dropLine p s)) s

/-- R113: line-good rises. -/
def execLineGoodRise (p : Port) (s : State) : Answered :=
  occurs (!s.ports[p].lineGood) (raiseLine p) s

/-- R120: qualification completes in DOWN. -/
def execQualificationComplete (p : Port) (s : State) : Answered :=
  occurs (s.ports[p].link == .down && elapsed s.ports[p].qualification)
    (fun s => conclude s (enterProbing p s)) s

/-- R112: a received break begins; one that goes on already does not begin. -/
def execReceivedBreakBegin (p : Port) (s : State) : Answered :=
  occurs s.ports[p].receivedBreak.isNone
    (modPort p fun u => { u with receivedBreak := some { left := breakUs, detected := false } }) s

/-- R112: a received break ends. -/
def execReceivedBreakEnd (p : Port) (s : State) : Answered :=
  occurs s.ports[p].receivedBreak.isSome (fun s => conclude s (endReceivedBreak p s)) s

/-- R112: a received break has lasted 1 ms. -/
def execBreakDetected (p : Port) (s : State) : Answered :=
  occurs (breakDue s.ports[p]) (fun s => conclude s (detectBreak p s)) s

/-- R111: the break sent at a fence has lasted break_ms. -/
def execBreakSendEnd (p : Port) (s : State) : Answered :=
  occurs (elapsed s.ports[p].breakTimer) (endBreak p) s

/-- R127: a FENCED port's hold-down expires. -/
def execHolddownExpiry (p : Port) (s : State) : Answered :=
  occurs (s.ports[p].link == .fenced && elapsed s.ports[p].holddown)
    (fun s => conclude s (endHolddown p s)) s

/-- R126: the steady timer reaches 10 seconds. -/
def execSteadyTimerComplete (p : Port) (s : State) : Answered :=
  occurs (steadyDue s.ports[p]) (completeSteady p) s

/-- R125: an open flap window expires. -/
def execFlapWindowExpiry (p : Port) (s : State) : Answered :=
  occurs (elapsed s.ports[p].flapWindow) (closeFlapWindow p) s

/-- R88: a PAUSING phase ends. -/
def execPausingPhaseExpiry (p : Port) (s : State) : Answered :=
  occurs (s.relief.generators[p].state == .pausing && elapsed s.relief.generators[p].timer)
    (endPausing p) s

/-- R89: a RELEASING phase ends: the port is paced, and PAUSING begins. -/
def execReleasingPhaseExpiry (p : Port) (s : State) : Answered :=
  occurs (s.relief.generators[p].state == .releasing && elapsed s.relief.generators[p].timer)
    (startPausing p) s

/-- R138: a measurement ends with a raw margin. -/
def execMeasurementComplete (raw : Byte) (s : State) : Answered :=
  occurs (measurementDue s) (fun s => conclude s (completeMeasurement raw s)) s

/-- R28: the aging sweep. -/
def execAgingSweep (s : State) : Answered := occurs (sweepDue s) sweep s

/-- R148: an epoch tick, with the expiry where this tick reaches the length (log 5). -/
def execEpochTick (s : State) : Answered := occurs (tickDue s) (fun s => transmit (epochTickEvent s)) s

/-- R148: the epoch tick at which the count reaches the length: the expiry (log 5). -/
def execEpochExpiry (s : State) : Answered :=
  occurs (expiryDue s) (fun s => transmit (epochTickEvent s)) s

/-- Section 0.7, R92: n base ticks pass. -/
def execBaseTick (n : Nat) (s : State) : Answered := .next (passTicks n s)

end Sys2Proof.Machine
end

