-- ==== Sys2Proof/Machine/Dispatch.lean ====
section
/-! DEFINITION. The meaning of each command: one arm per constructor. -/

namespace Sys2Proof.Machine

open Sys2Proof

def exec (i : Instr) (s : State) : Host.Outcome State Fault Refusal :=
  match i with
  | .tenantDefine tag body => Sys2Proof.Machine.execTenantDefine tag body s
  | .tenantRemove tag body => Sys2Proof.Machine.execTenantRemove tag body s
  | .tenantQuery tag body => Sys2Proof.Machine.execTenantQuery tag body s
  | .tenantBind tag body => Sys2Proof.Machine.execTenantBind tag body s
  | .segmentDefine tag body => Sys2Proof.Machine.execSegmentDefine tag body s
  | .segmentRemove tag body => Sys2Proof.Machine.execSegmentRemove tag body s
  | .stationAdd tag body => Sys2Proof.Machine.execStationAdd tag body s
  | .stationRemove tag body => Sys2Proof.Machine.execStationRemove tag body s
  | .stationFind tag body => Sys2Proof.Machine.execStationFind tag body s
  | .stationFlush tag body => Sys2Proof.Machine.execStationFlush tag body s
  | .stationStatus tag body => Sys2Proof.Machine.execStationStatus tag body s
  | .trunkGroup tag body => Sys2Proof.Machine.execTrunkGroup tag body s
  | .forwardStatus tag body => Sys2Proof.Machine.execForwardStatus tag body s
  | .bufferQuery tag body => Sys2Proof.Machine.execBufferQuery tag body s
  | .reliefSet tag body => Sys2Proof.Machine.execReliefSet tag body s
  | .reliefQuery tag body => Sys2Proof.Machine.execReliefQuery tag body s
  | .portSet tag body => Sys2Proof.Machine.execPortSet tag body s
  | .portAdjust tag body => Sys2Proof.Machine.execPortAdjust tag body s
  | .enable tag port => Sys2Proof.Machine.execEnable tag port s
  | .disable tag port => Sys2Proof.Machine.execDisable tag port s
  | .portQuery tag body => Sys2Proof.Machine.execPortQuery tag body s
  | .portRelease tag body => Sys2Proof.Machine.execPortRelease tag body s
  | .portFaults tag body => Sys2Proof.Machine.execPortFaults tag body s
  | .lineMeasure tag body => Sys2Proof.Machine.execLineMeasure tag body s
  | .lineCalibrate tag body => Sys2Proof.Machine.execLineCalibrate tag body s
  | .billStart tag body => Sys2Proof.Machine.execBillStart tag body s
  | .billStop tag body => Sys2Proof.Machine.execBillStop tag body s
  | .billHold tag body => Sys2Proof.Machine.execBillHold tag body s
  | .billResume tag body => Sys2Proof.Machine.execBillResume tag body s
  | .billClose tag body => Sys2Proof.Machine.execBillClose tag body s
  | .billSet tag body => Sys2Proof.Machine.execBillSet tag body s
  | .billDrain tag body => Sys2Proof.Machine.execBillDrain tag body s
  | .billLock tag body => Sys2Proof.Machine.execBillLock tag body s
  | .billQuery tag body => Sys2Proof.Machine.execBillQuery tag body s
  | .noticeMask tag body => Sys2Proof.Machine.execNoticeMask tag body s
  | .hello tag body => Sys2Proof.Machine.execHello tag body s
  | .restart tag body => Sys2Proof.Machine.execRestart tag body s
  | .badKind kind tag body => Sys2Proof.Machine.execBadKind kind tag body s
  | .requestOverflow kind tag body => Sys2Proof.Machine.execRequestOverflow kind tag body s
  | .framingError bytes => Sys2Proof.Machine.execFramingError bytes s
  | .byteGapTimeout bytes => Sys2Proof.Machine.execByteGapTimeout bytes s
  | .frameSendEnd => Sys2Proof.Machine.execFrameSendEnd s
  | .powerRestart => Sys2Proof.Machine.execPowerRestart s
  | .pinRestart => Sys2Proof.Machine.execPinRestart s
  | .leaveRestart => Sys2Proof.Machine.execLeaveRestart s
  | .frameReceptionBegin port => Sys2Proof.Machine.execFrameReceptionBegin port s
  | .dataFrameArrival port frame => Sys2Proof.Machine.execDataFrameArrival port frame s
  | .transmissionCompletion port => Sys2Proof.Machine.execTransmissionCompletion port s
  | .pauseFrameReceived port time => Sys2Proof.Machine.execPauseFrameReceived port time s
  | .releaseFrameReceived port => Sys2Proof.Machine.execReleaseFrameReceived port s
  | .peerPauseExpiry port => Sys2Proof.Machine.execPeerPauseExpiry port s
  | .beaconReceived port count => Sys2Proof.Machine.execBeaconReceived port count s
  | .beaconTimerExpiry port => Sys2Proof.Machine.execBeaconTimerExpiry port s
  | .errorWindowEnd port => Sys2Proof.Machine.execErrorWindowEnd port s
  | .silenceTimerExpiry port => Sys2Proof.Machine.execSilenceTimerExpiry port s
  | .quietTimerExpiry port => Sys2Proof.Machine.execQuietTimerExpiry port s
  | .lineGoodDrop port => Sys2Proof.Machine.execLineGoodDrop port s
  | .lineGoodRise port => Sys2Proof.Machine.execLineGoodRise port s
  | .qualificationComplete port => Sys2Proof.Machine.execQualificationComplete port s
  | .receivedBreakBegin port => Sys2Proof.Machine.execReceivedBreakBegin port s
  | .receivedBreakEnd port => Sys2Proof.Machine.execReceivedBreakEnd port s
  | .breakDetected port => Sys2Proof.Machine.execBreakDetected port s
  | .breakSendEnd port => Sys2Proof.Machine.execBreakSendEnd port s
  | .holddownExpiry port => Sys2Proof.Machine.execHolddownExpiry port s
  | .steadyTimerComplete port => Sys2Proof.Machine.execSteadyTimerComplete port s
  | .flapWindowExpiry port => Sys2Proof.Machine.execFlapWindowExpiry port s
  | .pausingPhaseExpiry port => Sys2Proof.Machine.execPausingPhaseExpiry port s
  | .releasingPhaseExpiry port => Sys2Proof.Machine.execReleasingPhaseExpiry port s
  | .measurementComplete raw => Sys2Proof.Machine.execMeasurementComplete raw s
  | .agingSweep => Sys2Proof.Machine.execAgingSweep s
  | .epochTick => Sys2Proof.Machine.execEpochTick s
  | .epochExpiry => Sys2Proof.Machine.execEpochExpiry s
  | .baseTick n => Sys2Proof.Machine.execBaseTick n s

end Sys2Proof.Machine
end

