-- ==== Sys2Proof/WellFormed.lean ====
section
/-! DEFINITION. Which commands can be sent: the checks on a command's operands that its type does not
make. A command is given a meaning whether it is well-formed or not; an ill-formed one is no event of the
part. -/

namespace Sys2Proof

open Sys2Proof.Machine

/-- The kind of each host request (Table 10-4). -/
def Instr.requestKind? : Instr → Option Byte
  | .tenantDefine .. => some 0x01
  | .tenantRemove .. => some 0x02
  | .tenantQuery .. => some 0x03
  | .tenantBind .. => some 0x04
  | .segmentDefine .. => some 0x05
  | .segmentRemove .. => some 0x06
  | .stationAdd .. => some 0x08
  | .stationRemove .. => some 0x09
  | .stationFind .. => some 0x0A
  | .stationFlush .. => some 0x0B
  | .stationStatus .. => some 0x0C
  | .trunkGroup .. => some 0x10
  | .forwardStatus .. => some 0x11
  | .bufferQuery .. => some 0x14
  | .reliefSet .. => some 0x18
  | .reliefQuery .. => some 0x19
  | .portSet .. => some 0x20
  | .portAdjust .. => some 0x21
  | .enable .. => some 0x21
  | .disable .. => some 0x21
  | .portQuery .. => some 0x22
  | .portRelease .. => some 0x23
  | .portFaults .. => some 0x24
  | .lineMeasure .. => some 0x28
  | .lineCalibrate .. => some 0x29
  | .billStart .. => some 0x30
  | .billStop .. => some 0x31
  | .billHold .. => some 0x32
  | .billResume .. => some 0x33
  | .billClose .. => some 0x34
  | .billSet .. => some 0x35
  | .billDrain .. => some 0x36
  | .billLock .. => some 0x37
  | .billQuery .. => some 0x38
  | .noticeMask .. => some 0x3C
  | .hello .. => some 0x3D
  | .restart .. => some 0x3E
  | .badKind kind .. => some kind
  | .requestOverflow kind .. => some kind
  | _ => none

/-- The tag and body of the frame a command carries, if it carries a good frame. -/
def Instr.frameParts? : Instr → Option (Byte × List Byte)
  | .tenantDefine tag body => some (tag, body)
  | .tenantRemove tag body => some (tag, body)
  | .tenantQuery tag body => some (tag, body)
  | .tenantBind tag body => some (tag, body)
  | .segmentDefine tag body => some (tag, body)
  | .segmentRemove tag body => some (tag, body)
  | .stationAdd tag body => some (tag, body)
  | .stationRemove tag body => some (tag, body)
  | .stationFind tag body => some (tag, body)
  | .stationFlush tag body => some (tag, body)
  | .stationStatus tag body => some (tag, body)
  | .trunkGroup tag body => some (tag, body)
  | .forwardStatus tag body => some (tag, body)
  | .bufferQuery tag body => some (tag, body)
  | .reliefSet tag body => some (tag, body)
  | .reliefQuery tag body => some (tag, body)
  | .portSet tag body => some (tag, body)
  | .portAdjust tag body => some (tag, body)
  | .enable tag port => some (tag, [port, 1, 0, 1])
  | .disable tag port => some (tag, [port, 1, 0, 0])
  | .portQuery tag body => some (tag, body)
  | .portRelease tag body => some (tag, body)
  | .portFaults tag body => some (tag, body)
  | .lineMeasure tag body => some (tag, body)
  | .lineCalibrate tag body => some (tag, body)
  | .billStart tag body => some (tag, body)
  | .billStop tag body => some (tag, body)
  | .billHold tag body => some (tag, body)
  | .billResume tag body => some (tag, body)
  | .billClose tag body => some (tag, body)
  | .billSet tag body => some (tag, body)
  | .billDrain tag body => some (tag, body)
  | .billLock tag body => some (tag, body)
  | .billQuery tag body => some (tag, body)
  | .noticeMask tag body => some (tag, body)
  | .hello tag body => some (tag, body)
  | .restart tag body => some (tag, body)
  | .badKind _ tag body => some (tag, body)
  | .requestOverflow _ tag body => some (tag, body)
  | _ => none

/-- The frame a command carries. -/
def Instr.message? (i : Instr) : Option Message :=
  match i.requestKind?, i.frameParts? with
  | some kind, some (tag, body) => some { kind := kind, tag := tag, body := body }
  | _, _ => none

/-- R160: a good frame has a body of at most 1,024 bytes. -/
def frameFits (i : Instr) : Bool :=
  match i.message? with
  | some m => m.body.length ≤ 1024
  | none => true

/-- R161: bytes, marker first, whose first frame is a framing error. -/
def makesFramingError (bytes : List Byte) : Bool :=
  bytes.head? == some marker && frameOf bytes.tail == .bad

/-- R161: bytes of which the assembler reports nothing: none, or such as end inside a frame. -/
def reportsNothing (bytes : List Byte) : Bool := (scan bytes.length bytes).1.isEmpty

/-- The checks of each command's own operands. -/
def operandsFit : Instr → Bool
  | .enable _ port => port.toNat < 40
  | .disable _ port => port.toNat < 40
  | .badKind kind _ _ => (lengthAllowed? kind 0).isNone
  | .framingError bytes => makesFramingError bytes
  | .byteGapTimeout bytes => reportsNothing bytes
  | .beaconTimerExpiry p => !isStation p
  | .silenceTimerExpiry p => !isStation p
  | .quietTimerExpiry p => isStation p
  | .baseTick n => 1 ≤ n
  | _ => true

/-- Whether a command can be sent. -/
def Instr.wellFormed (i : Instr) : Bool := frameFits i && operandsFit i

end Sys2Proof
end

