-- ==== Sys2Proof/Safety.lean ====
section
/-! DEFINITION. The conditions on a state that the statements speak of: what lets a request be performed,
and the invariants that every step keeps. -/

namespace Sys2Proof.Safety

open Sys2Proof Sys2Proof.Machine

/-! ### Requests -/

/-- The next byte finds the assembler hunting: no frame is in reception, or its gap is too long (R161). -/
def hunting (s : State) : Prop := s.link.rx = [] ∨ s.link.gap.any (20000 < ·) = true

/-- The part takes and performs a good frame: it is out of restart, no RESTART has been handed, a place is
free, and the frame's bytes find the assembler hunting (R161, R162, R167, R169). -/
def accepting (s : State) : Prop :=
  s.link.inRestart = false ∧ s.link.restartHanded = false ∧ s.link.places.length < 4 ∧ hunting s

/-- The state in which the assembler hunts, all else unchanged; a gap of more than 20 ms that stood has been
counted as a framing error (R161). -/
def hunted (s : State) : State :=
  modLink
    (fun l =>
      { l with
        rx := [], gap := none
        linkErrors := if l.gap.any (20000 < ·) = true then l.linkErrors + 1 else l.linkErrors }) s

/-- The part's answer to a good frame that it performs: `effect` is the state the request's owner leaves,
`reply` the body of the reply, which takes a place; the transmitter then chooses (R162, R164). -/
def performed (kind tag : Byte) (reply : List Byte) (effect : State) : Answered :=
  .next
    (transmit
      (modLink
        (fun l => { l with places := l.places ++ [{ kind := kind, tag := tag, reply := some reply }] })
        effect))

/-- The part's answer to a good frame whose request is refused: the status alone, and nothing changes
(R163). -/
def refused (kind tag : Byte) (st : Status) (s : State) : Answered :=
  performed kind tag [st.code] (hunted s)

/-- The request kinds of Table 10-4 with the body lengths each allows. -/
def requestLengths : List (Byte × List Nat) :=
  [(0x01, [6]), (0x02, [1]), (0x03, [1]), (0x04, [4]), (0x05, [4]), (0x06, [2]), (0x08, [9]),
    (0x09, [8]), (0x0A, [8]), (0x0B, [2]), (0x0C, [0, 2]), (0x10, [2]), (0x11, [0]), (0x14, [0]),
    (0x18, [16]), (0x19, [0]), (0x20, [21])] ++
  [(0x21, (List.range 14).map fun k => 4 + 3 * k), (0x22, [1]), (0x23, [1]), (0x24, [1]), (0x28, [1]),
    (0x29, [1]), (0x30, [0]), (0x31, [0]), (0x32, [0]), (0x33, [0]), (0x34, [0]), (0x35, [3]),
    (0x36, [1]), (0x37, [0]), (0x38, [0, 1]), (0x3C, [2]), (0x3D, [0]), (0x3E, [0])]

/-- The request kinds of Table 10-4. -/
def requestKinds : List Byte := requestLengths.map Prod.fst

/-! ### Restarts -/

/-- The commands that restart the part, where they do (R167). -/
def restarts (c : Instr) (s : State) : Prop :=
  c = .powerRestart ∨ (c = .pinRestart ∧ s.link.restartLineHigh = true) ∨
    (c = .frameSendEnd ∧ s.link.sending.any isRestartReply = true)

/-! ### Receptions -/

/-- A frame arrives in a state that has the port receive it, and neither a fence nor a disable has cut its
reception (R104, Table 6-4). -/
def received (s : State) (p : Port) : Prop :=
  (receptionOf s p).cut = false ∧
    (s.ports[p].link = .up ∨ s.ports[p].link = .probing ∨ s.ports[p].link = .down)

/-- A data frame arrives whole and good on a port that has been UP since its reception began, so that it is
handed to classification (R104). -/
def classified (s : State) (p : Port) (f : DataFrame) : Prop :=
  (receptionOf s p).cut = false ∧ (receptionOf s p).changed = false ∧ s.ports[p].link = .up ∧
    f.goodCheck = true ∧ 64 ≤ f.length ∧ f.length ≤ 9216

/-- A beacon's reception has been cut, and not by a SILENT fence of this same instant alone (R104, R109,
log 15). -/
def beaconLost (s : State) (p : Port) : Prop :=
  (receptionOf s p).cut = true ∧ (receptionOf s p).silencedAt ≠ some s.now

/-! ### Invariants -/

/-- R79: the relief settings lie in their ranges and satisfy their two relations. -/
def reliefSettled (s : State) : Prop :=
  s.relief.settings.inRange = true ∧ s.relief.settings.related = true

/-- The fields of a configured record with their values (Table 6-1). -/
def configFields (c : PortConfig) : List (ConfigField × Nat) :=
  [(.enabled, yesNo c.enabled), (.defaultPriority, c.defaultPriority), (.headroomCells, c.headroomCells),
    (.errorWindowMs, c.errorWindowMs), (.errorThreshold, c.errorThreshold), (.qualifyMs, c.qualifyMs),
    (.breakMs, c.breakMs), (.quietMs, c.quietMs), (.beaconMs, c.beaconMs), (.missLimit, c.missLimit),
    (.marginThreshold, c.marginThreshold), (.holddownBaseMs, c.holddownBaseMs),
    (.flapLimit, c.flapLimit), (.flapWindowS, c.flapWindowS)]

/-- R98: every field that a port's record has lies in its range, and enabled is yes exactly while the
port is not DISABLED. -/
def portConfigured (s : State) (p : Port) : Prop :=
  (∀ fv ∈ configFields s.ports[p].config, fv.1.onPort p = true → fv.1.inRange fv.2 = true) ∧
    s.ports[p].config.enabled = (s.ports[p].link != .disabled)

/-- R98: every port's record. -/
def configured (s : State) : Prop := ∀ p : Port, portConfigured s p

/-- R50, R52: the groups share no member, and the UP membership of each holds exactly its members that
are UP. -/
def membershipUp (s : State) : Prop :=
  s.forwarding.groupA.members &&& s.forwarding.groupB.members = 0 ∧
    ∀ (g : Group) (p : Port),
      inTrunkSet (groupTables s g).up p =
        (inTrunkSet (groupTables s g).members p && s.ports[p].link == .up)

/-- R85: a port is paced exactly while it is UP and belongs to the contributor set of a CONGESTED
queue. -/
def pacedRight (s : State) : Prop := ∀ p : Port, s.relief.paced[p] = pacedNow s p

/-- R134, R141, R154, R162, R166: the collections and numbers of the shared blocks within their bounds;
READY is never masked. -/
def blocksBounded (s : State) : Prop :=
  s.link.places.length ≤ 4 ∧ s.billing.queue.length ≤ 256 ∧ -31 ≤ s.measurement.offset ∧
    s.measurement.offset ≤ 31 ∧ s.link.mask.getLsbD 0 = true

/-- R106, R126, R67: the numbers of a port within their bounds. -/
def portBounded (s : State) (p : Port) : Prop :=
  s.ports[p].errorCount ≤ 65535 ∧ s.ports[p].holddownStep ≤ 6 ∧ s.buffer.streak[p] ≤ 8

/-- The bounds of the whole part. -/
def bounded (s : State) : Prop := blocksBounded s ∧ ∀ p : Port, portBounded s p

/-- R18, R19, R27: at most four ways of a bucket and 4,096 entries of the Station Table are occupied, and
the sweep period lies in its range. -/
def stationTableSized (s : State) : Prop :=
  (∀ bucket : Nat, bucketUse s bucket ≤ 4) ∧ s.stations.entries.length ≤ 4096 ∧
    1 ≤ s.stations.sweepPeriod ∧ s.stations.sweepPeriod ≤ 3600

/-- R58, R59: the stored-frame records and the copy entries in use are no more than the part has. -/
def bufferSized (s : State) : Prop :=
  s.buffer.records.length ≤ 8192 ∧ entriesInUse s.buffer ≤ 16384

/-- Table 1-2: the quota and the station limit of every tenant lie in their ranges. -/
def tenantsSized (s : State) : Prop :=
  ∀ t : TenantId,
    s.directory.tenants[t].quotaCells ≤ 16384 ∧ s.directory.tenants[t].stationLimit ≤ 4096

/-- R148, R149: the epoch length, and a staged one, lie in their range; while billing runs the count is at
most the length, and below it while the epoch is not OVERDUE; while it is STOPPED the count may be any (log 32). -/
def epochSized (s : State) : Prop :=
  1 ≤ s.billing.length ∧ s.billing.length ≤ 65535 ∧
    (∀ x ∈ s.billing.staged, 1 ≤ x.2 ∧ x.2 ≤ 65535) ∧
    (s.billing.state ≠ .stopped →
      s.billing.count ≤ s.billing.length ∧
        (s.billing.overdue = false → s.billing.count < s.billing.length))

/-- The tables, the settings and the counts of the shared blocks within their bounds. -/
def tablesSized (s : State) : Prop :=
  stationTableSized s ∧ bufferSized s ∧ tenantsSized s ∧ epochSized s

/-- R134: the engine is IDLE only while its pending list is empty. -/
def engineBusy (s : State) : Prop :=
  s.measurement.inProgress = none → s.measurement.recovery = [] ∧ s.measurement.host = []

/-- R161: the gap is timed exactly while a frame is in reception. -/
def gapTimed (s : State) : Prop := s.link.gap = none ↔ s.link.rx = []

/-- R139, Table 10-3: the results of MEASURE-DONE stand in strictly ascending port order. -/
def resultsAscending (s : State) : Prop :=
  (s.link.notices.measureDone.getD []).Pairwise fun x y => x.port.val < y.port.val

/-- The station entries stand in strictly rising order of their keys, so that one table is one list, which is
the model's choice (log 20). -/
def stationsSorted (s : State) : Prop :=
  s.stations.entries.Pairwise fun e x => keyBefore e x = true

/-- R134: the list holds at most one request per port. -/
def onePerPort (s : State) : Prop :=
  ((s.measurement.recovery ++ s.measurement.host).map MeasureRequest.port).Nodup

/-! ### Entries to DOWN and UP -/

/-- R165, R131: the notices with the port joined to PORT-CHANGE. -/
def changed (n : Notices) (p : Port) : Notices :=
  { n with portChange := some ((n.portChange.getD PortSet.empty).set p true) }

/-- What the part leaves at a port's entry to DOWN with `v` for its unit (R118, R121, R127, R128): a break in
progress ends, a trunk hands its next beacon and loads its beacon timer (R107), qualification starts if
line_good is yes (R113), PORT-CHANGE names the port (R131). -/
def entersDown (p : Port) (v : PortUnit) (s : State) : State :=
  let trunk : Bool := decide (32 ≤ p.val)
  { s with
    ports :=
      s.ports.set p
        { v with
          link := .down, breakTimer := none, reference := none
          reception := v.reception.map fun r => { r with changed := true }
          qualification := if v.lineGood = true then some (v.config.qualifyMs * 1000) else none
          rollingCount := if trunk = true then v.rollingCount + 1 else v.rollingCount
          beaconsSent := if trunk = true then v.beaconsSent + 1 else v.beaconsSent
          beaconTimer := if trunk = true then some (v.config.beaconMs * 1000) else v.beaconTimer
          waitingBeacon :=
            if trunk = true ∧ lineBusy s p = true then some v.rollingCount else v.waitingBeacon }
    lineOut :=
      s.lineOut ++ (if v.breakTimer.isSome = true then [.breakEnd p] else []) ++
        (if trunk = true ∧ lineBusy s p = false then [.beacon p v.rollingCount] else [])
    link := { s.link with notices := changed s.link.notices p } }

/-- What the part leaves at a port's entry to UP from PROBING (R122): its steady timer runs, a trunk's silence
timer too; a trunk joins its group's UP membership (R52), and the port joins the contributor set of every
CONGESTED queue in which its frames hold a share (R84). -/
def entersUp (p : Port) (s : State) : State :=
  let joined (t : TrunkGroup) : TrunkGroup := { t with up := t.up ||| (1#8 <<< (p.val - 32)) }
  { s with
    ports :=
      s.ports.set p
        { s.ports[p] with
          link := .up
          reception := s.ports[p].reception.map fun r => { r with changed := true }
          silence := if p.val < 32 then none else some 0
          quiet := false, quietTimer := none, steady := some 0 }
    forwarding :=
      match groupOfPort s p with
      | some .a => { s.forwarding with groupA := joined s.forwarding.groupA }
      | some .b => { s.forwarding with groupB := joined s.forwarding.groupB }
      | none => s.forwarding
    relief :=
      { s.relief with
        contributors := Vector.ofFn fun q : Port =>
          if s.relief.congested[q] = true ∧
              s.relief.settings.share ≤ cellsFrom s.buffer s.buffer.held[q] p then
            s.relief.contributors[q].set p true
          else s.relief.contributors[q] }
    link := { s.link with notices := changed s.link.notices p } }

/-- What the part leaves where a port's pending requests are withdrawn (R140): they are out of the list, and a
host request among them has raised its WITHDRAWN result. -/
def withdrawn (p : Port) (s : State) : State :=
  let t : State :=
    { s with
      measurement :=
        { s.measurement with
          recovery := s.measurement.recovery.filter fun r => r.port != p
          host := s.measurement.host.filter fun r => r.port != p } }
  if s.measurement.host.any (fun r => r.port == p) = true then
    raiseMeasureDone { port := p, outcome := .withdrawn } t
  else t

/-! ### The departure of a port (R31, R32, R52, R75, R84, R90, R140) -/

/-- From `s` to `t` a port leaves its group's UP membership, and a membership it leaves empty has the group's
LEARNED entries flushed; the member sets stay, and so do the other group and a trunk's other entries. -/
def leavesGroup (s t : State) (p : Port) : Prop :=
  (∀ g : Group, (groupTables t g).members = (groupTables s g).members ∧
    (groupOfPort s p ≠ some g → (groupTables t g).up = (groupTables s g).up) ∧
    (groupOfPort s p = some g →
      (groupTables t g).up = (groupTables s g).up &&& ~~~ (1#8 <<< (p.val - 32)) ∧
        ((groupTables s g).up.getLsbD (p.val - 32) = true → (groupTables t g).up = 0 →
          t.stations.entries =
            s.stations.entries.filter fun e => !(e.isLearned && e.target == .group g)))) ∧
    (32 ≤ p.val →
      (∀ g : Group, groupOfPort s p = some g → (groupTables s g).up.getLsbD (p.val - 32) = true →
        (groupTables t g).up ≠ 0) →
      t.stations.entries = s.stations.entries)

/-- The member to which a fenced trunk's waiting held copy goes: of the other UP members of its group, in
ascending order, the one at the position of the frame's flow hash, modulo their number. -/
def rehomeMember (s : State) (p : Port) (c : CopyEntry) : Option Port :=
  match groupOfPort s p, frameOf? s.buffer c.frame with
  | some g, some r =>
    let members := (List.finRange 40).filter fun q =>
      decide (32 ≤ q.val) && (groupTables s g).up.getLsbD (q.val - 32) && q != p
    members[r.flowHash.val % members.length]?
  | _, _ => none

/-- Whether a fence of the port moves a copy of its held queue to another port. -/
def moves (s : State) (p : Port) (c : CopyEntry) : Bool :=
  !isStation p && !c.inTransmission && (rehomeMember s p c).isSome

/-- The copies that a fence of the port flushes. -/
def lostCopies (s : State) (p : Port) : List CopyEntry :=
  (s.buffer.held[p].filter fun c => !moves s p c) ++ s.buffer.bulk[p]

/-- The state `u` after the evaluation of those held queues of a list whose occupancy is not what it was in
`before` (R77, R81). -/
def evaluated (qs : List Port) (before u : State) : State :=
  qs.foldl
    (fun acc q =>
      if occupancy acc.buffer acc.buffer.held[q] = occupancy before.buffer before.buffer.held[q] then acc
      else evaluateQueue q acc) u

/-- What the blocks beside the Buffer Manager and the Port Units hold from `s` to `t` of a port that is fenced or
disabled, the held queues `qs` having changed: a station's LEARNED entries are gone (R31), a trunk is out of
its group's UP membership (R32, R52), the queues are evaluated (R77), the port is in no contributor set, not
paced, its generator IDLE (R84, R90), and its pending requests are withdrawn (R140). -/
def departs (s t : State) (p : Port) (qs : List Port) : Prop :=
  let e := evaluated qs s { s with buffer := t.buffer, ports := t.ports }
  t.directory = s.directory ∧
    (∀ q : StationPort, p = asPort q →
      t.stations.entries =
        s.stations.entries.filter fun e => !(e.isLearned && e.target == .port q)) ∧
    t.stations = { s.stations with entries := t.stations.entries } ∧
    leavesGroup s t p ∧
    t.forwarding =
      { s.forwarding with groupA := t.forwarding.groupA, groupB := t.forwarding.groupB } ∧
    t.relief.settings = s.relief.settings ∧ t.relief.congested = e.relief.congested ∧
    (∀ q i : Port, t.relief.contributors[q][i] = (i != p && e.relief.contributors[q][i])) ∧
    (∀ i : Port, t.relief.paced[i] = (i != p && s.relief.paced[i])) ∧
    t.relief.generators =
      s.relief.generators.set p { s.relief.generators[p] with state := .idle, timer := none } ∧
    t.measurement = (withdrawn p s).measurement ∧
    t.link =
      { s.link with
        notices :=
          { s.link.notices with
            portChange := (changed s.link.notices p).portChange
            fault := t.link.notices.fault
            relief := e.link.notices.relief
            measureDone := (withdrawn p s).link.notices.measureDone } } ∧
    t.billing = { s.billing with meters := t.billing.meters } ∧ t.now = s.now ∧
    t.freeCount = s.freeCount ∧ t.pending = s.pending

/-! ### The balance of the meters (R144) -/

/-- Every copy entry of the part. -/
def allCopies (b : Buffer) : List CopyEntry :=
  (List.finRange 40).flatMap fun p => b.held[p] ++ b.bulk[p]

/-- R58, R59: record ids strictly rising below 8,192; every copy is a copy of a record in use, a record's
copies_remaining is the number of its copies, at least one, and no stored frame is empty. -/
def bufferSound (b : Buffer) : Prop :=
  (b.records.map Prod.fst).Pairwise (· < ·) ∧ (∀ kr ∈ b.records, kr.1 < 8192) ∧
    (∀ c ∈ allCopies b, c.frame ∈ b.records.map Prod.fst) ∧
    ∀ kr ∈ b.records,
      1 ≤ kr.2.length ∧ 1 ≤ kr.2.copiesRemaining ∧
        kr.2.copiesRemaining = (allCopies b).countP fun c => c.frame == kr.1

/-- A pair names a defined tenant and a segment that tenant owns (R12, check 5). -/
def pairSound (s : State) (b : Binding) : Prop :=
  s.directory.tenants[b.tenant].defined = true ∧
    s.directory.segments[b.segment].map Segment.owner = some b.tenant

/-- R1, R4, R10, R12: tenant 0 is defined, owners of segments are defined, and the pairs of applied and
staged bindings are sound. -/
def directorySound (s : State) : Prop :=
  s.directory.tenants[(0 : TenantId)].defined = true ∧
    (∀ (g : SegmentId) (x : Segment), s.directory.segments[g] = some x →
      s.directory.tenants[x.owner].defined = true) ∧
    ∀ (q : StationPort) (b : Binding),
      (s.directory.applied[q] = some b ∨ s.directory.staged[q] = some (some b)) → pairSound s b

/-- R4, check 5: a stored frame belongs to a defined tenant. -/
def framesOwned (s : State) : Prop :=
  ∀ kr ∈ s.buffer.records, s.directory.tenants[kr.2.tenant].defined = true

/-- R143: meters are open for the defined tenants alone, and for none while billing is STOPPED. -/
def metersOpen (s : State) : Prop :=
  ∀ t : TenantId,
    s.billing.meters[t].isSome =
      (s.billing.state != .stopped && s.directory.tenants[t].defined)

/-- R144: the balance of a tenant's open meters. -/
def balanced (s : State) (t : TenantId) : Prop :=
  ∀ m : Meters, s.billing.meters[t] = some m →
    m.openingResident + m.admittedBytes =
      m.deliveredBytes + m.flushedBytes + BitVec.ofNat 64 (resident s t)

/-- R144, with the conditions on the other blocks that carry it from step to step. -/
def accounted (s : State) : Prop :=
  bufferSound s.buffer ∧ directorySound s ∧ framesOwned s ∧ metersOpen s ∧
    ∀ t : TenantId, balanced s t

end Sys2Proof.Safety
end

