-- ==== Sys2Proof/Certificates/Slice0/Obligations.lean ====
section
/-! DEFINITION. The statements about the model. A statement about a request says what a part that accepts
it answers: `performed` carries the reply's body and the state the owner leaves, `refused` the status
alone (Safety.lean). -/

open Sys2Proof Sys2Proof.Machine Sys2Proof.Safety

/-! ### Steps and restarts -/

/-- A step takes the command at the front of the queue and leaves the rest; on an empty queue the part
idles, which is the model's choice (log 21). -/
def Obligations.StepTakesTheFrontCommand : Prop :=
  (∀ (c : Instr) (rest : List Instr) (s : State), s.pending = c :: rest →
    step s = exec c { s with pending := rest }) ∧
  ∀ s : State, s.pending = [] → step s = .next s

/-- Every command answers a next state, and none touches the queue of waiting commands. That a command
whose event cannot occur leaves the part as it is, is the model's reading (log 4). -/
def Obligations.EveryCommandAnswersANextState : Prop :=
  ∀ (c : Instr) (s : State), ∃ t, exec c s = .next t ∧ t.pending = s.pending

/-- R159: a restart of any of the three kinds leaves billing STOPPED with no epoch, no meters, no staged
settings, no records and no lock, and neither of its flags pending; the restart record takes its two
figures from before the restart, except at a power restart, whose record carries neither. -/
def Obligations.RestartLeavesBillingStopped : Prop :=
  ∀ (c : Instr) (s : State), restarts c s →
    ∃ t, exec c s = .next t ∧
      t.billing.state = .stopped ∧ t.billing.overdue = false ∧ t.billing.epoch = 0 ∧
      (∀ u : TenantId, t.billing.meters[u] = none) ∧
      t.billing.tickSelect = .s1 ∧ t.billing.length = 3600 ∧ t.billing.count = 0 ∧
      t.billing.staged = none ∧ t.billing.queue = [] ∧ t.billing.lock = false ∧
      t.link.notices.epochClosed = none ∧ t.link.notices.billOverdue = none ∧
      (c ≠ .powerRestart →
        (t.link.restartRecord.epochOpen = .yes ↔
          s.billing.state = .running ∨ s.billing.state = .held) ∧
        t.link.restartRecord.recordsLost = s.billing.queue.length)

/-- R167: a restart writes its record and gives every block its values after a restart, the rolling count
and the absent reference of a trunk among them (log 24), and loses what its lines receive and send (log
26); line_good, which the line interfaces report, passes through (log 2), and so do the model's own
record of the lines, counter of free values and queue of waiting commands (logs 16, 17). R167, R164,
R165: on leaving restart the controller is at its values, and the READY notice, with tag 0 and the restart
record, is the first frame. That the restart line is high when a restart of any kind is left is the model's
reading (log 12), and so is that a request changes nothing until then (log 4). -/
def Obligations.RestartsReturnEveryBlock : Prop :=
  (∀ s : State,
     let openOf : EpochOpen := if s.billing.state = .stopped then .no else .yes
     let after (record : RestartRecord) (lineHigh : Bool) : State :=
       State.restarted record lineHigh (Vector.ofFn fun p : Port => s.ports[p].lineGood) s.lineOut
         s.freeCount s.pending
     exec .powerRestart s = .next (after ⟨.power, .unknown, 0⟩ s.link.restartLineHigh) ∧
     (s.link.restartLineHigh = true →
       exec .pinRestart s = .next (after ⟨.pin, openOf, s.billing.queue.length⟩ false)) ∧
     ∀ x : Sending, s.link.sending = some x → x.source = .place → x.message.kind = 0xBE →
       x.message.body = [0x00] →
       exec .frameSendEnd s =
         .next (after ⟨.command, openOf, s.billing.queue.length⟩ s.link.restartLineHigh)) ∧
  (∀ s : State, s.link.inRestart = true →
     exec .leaveRestart s =
       .next
         { s with
           link :=
             { rx := [], gap := none, places := [], overflow := none
               sending := some
                 { source := .notice,
                   message := { kind := 0x40, tag := 0, body := s.link.restartRecord.bytes } }
               notices := Notices.clear, noticeCount := 1, mask := 0xFFFF, linkErrors := 0
               restartRecord := s.link.restartRecord, inRestart := false, restartHanded := false
               restartLineHigh := true } }) ∧
  ∀ (i : Instr) (m : Message) (s : State), i.message? = some m → s.link.inRestart = true →
    exec i s = .next s

/-- State.reset has every invariant that the statements at the end of this file say a step keeps. That
State.reset has just left a power restart, its READY notice being sent, is the model's reading (log 3). -/
def Obligations.InvariantsHoldAfterReset : Prop :=
  reliefSettled State.reset ∧ configured State.reset ∧ membershipUp State.reset ∧
    pacedRight State.reset ∧ bounded State.reset ∧ stationsSorted State.reset ∧
    onePerPort State.reset ∧ accounted State.reset ∧ tablesSized State.reset ∧
    engineBusy State.reset ∧ gapTimed State.reset ∧ resultsAscending State.reset

/-! ### The management link (chapter 10) -/

/-- R160, R161: whatever frames the host sends one after another, the assembler finds each of them whole,
in order, and nothing else. R160, Table 10-1: the envelope of a message and its check. A command that carries a
good frame is that frame's arrival, BAD_KIND, REQUEST_OVERFLOW (log 8), ENABLE and DISABLE (log 6) too, which is
the model's choice. R161: where another frame is in reception, the arriving frame's bytes continue it; that they
come without a gap between them is the model's choice (log 7). -/
def Obligations.EncodedFramesAreReceivedInOrder : Prop :=
  (∀ (ms : List Message) (s : State), (∀ m ∈ ms, m.body.length ≤ 1024) → s.link.rx = [] →
     s.link.gap = none → s.link.inRestart = false →
     receiveBytes (ms.flatMap Message.encode) s = ms.foldl (fun acc m => frameArrival m acc) s) ∧
  (∀ m : Message,
     let covered := [m.kind, m.tag] ++ bytesOf 2 m.body.length ++ m.body
     m.encode = [0xA5] ++ covered ++ bytesOf 2 (crc16 covered).toNat) ∧
  (crc16 [] = 0xFFFF ∧
    ∀ (bytes : List Byte) (b : Byte),
      crc16 (bytes ++ [b]) =
        (List.range 8).foldl
          (fun (c : BitVec 16) _ => if c.getLsbD 15 = true then (c <<< 1) ^^^ 0x1021 else c <<< 1)
          (crc16 bytes ^^^ (b.setWidth 16 <<< 8) : BitVec 16)) ∧
  ∀ (i : Instr) (m : Message) (s : State), i.message? = some m →
    exec i s = .next (frameArrival m s) ∧
      (¬ hunting s → exec i s = .next (receiveBytes m.encode s))

/-- R161: a framing error raises the link error count and has the assembler hunt again from the byte
after the discarded frame's marker; a byte that finds no frame in reception and is no marker is discarded
uncounted; bytes that end inside a frame are kept, and its gap is timed from there; a good frame is taken, and the
assembler then hunts. All this holds of the bytes in reception and those that come, together. A length above 1,024
and a check that differs are framing errors, and a good frame is the envelope of its message (R160). A gap of more
than 20 ms, and no shorter one, is a framing error that discards the frame, whether it is looked at or the next
byte comes. That the two rows carry the bytes received is the model's choice (log 7). -/
def Obligations.AssemblerDiscardsBadFrames : Prop :=
  (∀ bytes : List Byte,
     let n := field bytes 2 2
     (frameOf bytes = .bad ↔
       4 ≤ bytes.length ∧
         (1024 < n ∨
           n + 6 ≤ bytes.length ∧
             field bytes (4 + n) 2 ≠ (crc16 (bytes.take (4 + n))).toNat)) ∧
       (frameOf bytes = .unfinished ↔
         bytes.length < 4 ∨ n ≤ 1024 ∧ bytes.length < n + 6) ∧
       ∀ (m : Message) (after : List Byte),
         frameOf bytes = .good m after ↔
           m.body.length ≤ 1024 ∧ 0xA5 :: bytes = m.encode ++ after) ∧
  ∀ (bytes : List Byte) (s : State), s.link.inRestart = false →
    let counted (t : State) : State := modLink (fun l => { l with linkErrors := l.linkErrors + 1 }) t
    let hunts : State := modLink (fun l => { l with rx := [], gap := none }) s
    (exec (.framingError bytes) s = .next (receiveBytes bytes s) ∧
      exec (.byteGapTimeout bytes) s = .next (receiveBytes bytes s)) ∧
    (∀ rest : List Byte, bytes ≠ [] → s.link.gap.any (20000 < ·) = false →
      s.link.rx ++ bytes = 0xA5 :: rest →
      (frameOf rest = .bad →
        exec (.framingError bytes) s = .next (receiveBytes rest (counted hunts))) ∧
      (frameOf rest = .unfinished →
        exec (.byteGapTimeout bytes) s =
          .next (modLink (fun l => { l with rx := 0xA5 :: rest, gap := some 0 }) s)) ∧
      ∀ (m : Message) (after : List Byte), frameOf rest = .good m after →
        exec (.framingError bytes) s = .next (receiveBytes after (frameArrival m hunts))) ∧
    (s.link.rx = [] → s.link.gap = none →
      ∀ b : Byte, b ≠ 0xA5 → receiveBytes (b :: bytes) s = receiveBytes bytes s) ∧
    ∀ n : Nat, s.link.gap = some n →
      (20000 < n →
        exec (.byteGapTimeout []) s = .next (counted hunts) ∧
          ∀ b : Byte, receiveBytes (b :: bytes) s = receiveBytes (b :: bytes) (counted hunts)) ∧
      (n ≤ 20000 → exec (.byteGapTimeout []) s = .next s)

/-- R162: a good frame that finds all four places held is not performed; its FULL reply takes the
overflow slot, and where that is taken the frame is discarded and counted. Its bytes find the assembler hunting;
where they do not, R161 has them continue the frame in reception. R162, R164: the end of a
frame's sending frees the transmitter and what the frame came from: the overflow slot, the earliest
place, or nothing. That the slot empties at the end of its reply's sending is the model's reading,
R162's against Table 10-12 (log 10). -/
def Obligations.PlacesOverflowAndAreFreed : Prop :=
  (∀ (i : Instr) (m : Message) (s : State), i.message? = some m → s.link.inRestart = false →
     s.link.restartHanded = false → 4 ≤ s.link.places.length → hunting s →
     (s.link.overflow = none →
       exec i s =
         .next
           (transmit
             (modLink
               (fun l =>
                 { l with
                   overflow := some { kind := m.kind ||| 0x80, tag := m.tag, body := [0x15] } })
               (hunted s)))) ∧
     (s.link.overflow.isSome = true →
       exec i s =
         .next
           (transmit (modLink (fun l => { l with linkErrors := l.linkErrors + 1 }) (hunted s))))) ∧
  (∀ (x : Sending) (s : State), s.link.sending = some x → isRestartReply x = false →
     exec .frameSendEnd s =
       .next
         (transmit
           (modLink
             (fun l =>
               { l with
                 sending := none
                 overflow := if x.source = .overflow then none else l.overflow
                 places := if x.source = .place then l.places.drop 1 else l.places }) s)))

/-- R163, Table 10-4: a kind that is no request kind is answered BAD_KIND, a body length that the kind does
not allow BAD_LENGTH, and nothing changes. R160, R170, Tables 10-2 and 10-8: numbers travel most significant
byte first, and statuses and enumerations have their codes. -/
def Obligations.KindAndLengthAreCheckedFirst : Prop :=
  (∀ (kind : Byte) (n : Nat),
     lengthAllowed? kind n = (requestLengths.lookup kind).map fun lengths => lengths.contains n) ∧
  (∀ w n : Nat,
     (bytesOf w n).length = w ∧
       (∀ i : Nat, i < w → (bytesOf w n)[i]? = some (BitVec.ofNat 8 (n / 256 ^ (w - 1 - i)))) ∧
       ∀ before after : List Byte, n < 256 ^ w →
         field (before ++ bytesOf w n ++ after) before.length w = n) ∧
  ([Status.ok, .accepted, .staged, .badKind, .badLength, .value, .state, .busy, .full, .locked, .conflict,
      .notFound].map Status.code =
     [0x00, 0x01, 0x02, 0x10, 0x11, 0x12, 0x13, 0x14, 0x15, 0x16, 0x17, 0x18] ∧
   [LinkState.disabled, .down, .probing, .up, .fenced, .barred].map LinkState.code = List.range 6 ∧
   [FaultCause.lineLost, .peerBreak, .silent, .errorBurst, .marginLow].map FaultCause.code =
     [2, 3, 4, 5, 6] ∧
   (∀ q : StationPort, Target.code (.port q) = q.val) ∧ Target.code (.group .a) = 64 ∧
   Target.code (.group .b) = 65 ∧ Group.code .a = 1 ∧ Group.code .b = 2 ∧
   (∀ seen : Bool, EntryKind.code (.learned seen) = 0) ∧ EntryKind.code .fixed = 1 ∧
   [EntryKind.learned false, .learned true, .fixed].map EntryKind.seenCode = List.range 3 ∧
   [GeneratorState.idle, .pausing, .releasing].map GeneratorState.code = List.range 3 ∧
   [BillingState.stopped, .running, .held].map BillingState.code = List.range 3 ∧
   [TickSelect.ms1, .ms10, .ms100, .s1].map TickSelect.code = List.range 4 ∧
   [TickSelect.ms1, .ms10, .ms100, .s1].map TickSelect.micros = [1000, 10000, 100000, 1000000]) ∧
  (∀ (kind tag : Byte) (body : List Byte) (s : State), accepting s → kind ∉ requestKinds →
    exec (.badKind kind tag body) s = performed kind tag [0x10] (hunted s)) ∧
  ∀ (i : Instr) (m : Message) (s : State), i.message? = some m → accepting s →
    lengthAllowed? m.kind m.body.length = some false →
    exec i s = performed m.kind m.tag [0x11] (hunted s)

/-- R164, R165: a busy transmitter, or one in restart, chooses nothing; a free one takes the overflow
slot's reply, else the earliest place's, else the highest-ranked unmasked notice that is pending, whose
tag is the notice count. R165, R115, Table 10-7: the body of each kind is read from its detail, a
PORT-CHANGE and a RELIEF notice's in ascending order (log 25). R165, R116: the building clears the flag and
its detail, and a PORT-CHANGE notice's empties the latched set of each port it names. -/
def Obligations.TransmitterChoosesByRank : Prop :=
  (∀ s : State,
    (s.link.inRestart = true ∨ s.link.sending.isSome = true → transmit s = s) ∧
    (s.link.inRestart = false → s.link.sending = none →
      let sends (x : Sending) (t : State) : State := modLink (fun l => { l with sending := some x }) t
      (∀ m, s.link.overflow = some m → transmit s = sends ⟨.overflow, m⟩ s) ∧
      (∀ (place : Place) (rest : List Place) (body : List Byte), s.link.overflow = none →
        s.link.places = place :: rest → place.reply = some body →
        transmit s = sends ⟨.place, ⟨place.kind ||| 0x80, place.tag, body⟩⟩ s) ∧
      (s.link.overflow = none → s.link.places = [] →
        (∀ (k : NoticeKind) (body : List Byte), s.link.mask.getLsbD k.index = true →
          noticeBody s k = some body →
          (∀ j : NoticeKind, j.index < k.index →
            s.link.mask.getLsbD j.index = false ∨ noticeBody s j = none) →
          transmit s =
            modLink
              (fun l =>
                { l with
                  sending := some ⟨.notice, ⟨k.code, l.noticeCount, body⟩⟩
                  noticeCount := l.noticeCount + 1 })
              (takeNotice k s)) ∧
        ((∀ k : NoticeKind, s.link.mask.getLsbD k.index = false ∨ noticeBody s k = none) →
          transmit s = s)))) ∧
  (∀ s : State,
    let n := s.link.notices
    let byte (x : Nat) : Byte := BitVec.ofNat 8 x
    let flag (b : Bool) : Byte := if b = true then 1 else 0
    let listed (parts : List (List Byte)) : List Byte := byte parts.length :: parts.flatten
    let portSet (x : PortSet) : List Byte :=
      bytesOf 5 (((List.finRange 40).map fun p : Port => if x[p] = true then 2 ^ p.val else 0).sum)
    let ports (x : PortSet) : List Port := (List.finRange 40).filter fun p => x[p]
    let health (p : Port) : Nat :=
      let conditions := currentConditions s.ports[p] s.relief.paced[p] ||| s.ports[p].latched
      (((List.range 8).find? fun i => conditions.getLsbD i).map (· + 1)).getD 9
    noticeBody s .ready =
        (n.ready.map fun r =>
          ([match r.cause with | .power => 1 | .pin => 2 | .command => 3,
              match r.epochOpen with | .no => 0 | .yes => 1 | .unknown => 2] : List Byte) ++
            bytesOf 2 r.recordsLost) ∧
      noticeBody s .fault = n.fault.map portSet ∧
      noticeBody s .portChange =
        (n.portChange.map fun x =>
          listed ((ports x).map fun p =>
            [byte p.val, byte s.ports[p].link.code, byte (health p), s.ports[p].latched])) ∧
      noticeBody s .billOverdue = (n.billOverdue.map fun d => bytesOf 4 d.1.toNat ++ [byte d.2]) ∧
      noticeBody s .epochClosed =
        (n.epochClosed.map fun d =>
          bytesOf 4 d.epoch.toNat ++
            [flag d.flags.locked + 2 * flag d.flags.late + 4 * flag d.flags.final +
              8 * flag d.flags.removed, byte d.closes]) ∧
      noticeBody s .measureDone =
        (n.measureDone.map fun rs =>
          listed (rs.map fun r =>
            match r.outcome with
            | .done margin changed => [byte r.port.val, 0, margin, flag changed]
            | .withdrawn => [byte r.port.val, 1, 0, 1])) ∧
      noticeBody s .relief =
        (n.relief.map fun x =>
          listed ((ports x).map fun q =>
            ([byte q.val, flag s.relief.congested[q]] : List Byte) ++
              bytesOf 2 (occupancy s.buffer s.buffer.held[q]))) ∧
      noticeBody s .stationMove =
        (n.stationMove.map fun d =>
          bytesOf 2 d.1.val ++ bytesOf 6 d.2.toNat ++ bytesOf 4 s.stations.moves.toNat) ∧
      noticeBody s .learnFull =
        (n.learnFull.map fun d =>
          listed (((List.finRange 64).filter fun u : TenantId => d.limit[u] || d.bucket[u]).map fun u =>
            [byte u.val, flag d.limit[u] + 2 * flag d.bucket[u]])) ∧
      noticeBody s .quiet = n.quiet.map portSet) ∧
  (∀ s : State,
    takeNotice .ready s = modNotices (fun n => { n with ready := none }) s ∧
      takeNotice .fault s = modNotices (fun n => { n with fault := none }) s ∧
      takeNotice .billOverdue s = modNotices (fun n => { n with billOverdue := none }) s ∧
      takeNotice .epochClosed s = modNotices (fun n => { n with epochClosed := none }) s ∧
      takeNotice .measureDone s = modNotices (fun n => { n with measureDone := none }) s ∧
      takeNotice .relief s = modNotices (fun n => { n with relief := none }) s ∧
      takeNotice .stationMove s = modNotices (fun n => { n with stationMove := none }) s ∧
      takeNotice .learnFull s = modNotices (fun n => { n with learnFull := none }) s ∧
      takeNotice .quiet s = modNotices (fun n => { n with quiet := none }) s ∧
      ∀ x : PortSet, s.link.notices.portChange = some x →
        takeNotice .portChange s =
          { modNotices (fun n => { n with portChange := none }) s with
            ports := Vector.ofFn fun p : Port =>
              if x[p] = true then { s.ports[p] with latched := 0 } else s.ports[p] })

/-- R169: RESTART is answered OK; from then on a good frame, whose bytes find the assembler hunting (R161), is
neither performed nor answered. That it
still takes a free place is the model's reading of R162 (log 11). R166: NOTICE-MASK refuses a mask with a
bit above 9; otherwise the mask is replaced, READY's bit reading 1. -/
def Obligations.RestartAndNoticeMaskAnswer : Prop :=
  ((∀ (tag : Byte) (s : State), accepting s →
     exec (.restart tag []) s =
       performed 0x3E tag [0x00] (modLink (fun l => { l with restartHanded := true }) (hunted s))) ∧
   ∀ (i : Instr) (m : Message) (s : State), i.message? = some m → s.link.inRestart = false →
     s.link.restartHanded = true → hunting s →
     exec i s =
       .next
         (transmit
           (modLink
             (fun l =>
               { l with
                 places :=
                   if l.places.length < 4 then
                     l.places ++ [{ kind := m.kind, tag := m.tag, reply := none }]
                   else l.places })
             (hunted s)))) ∧
  (∀ (tag : Byte) (body : List Byte) (s : State), accepting s → body.length = 2 →
     exec (.noticeMask tag body) s =
       if 1024 ≤ field body 0 2 then refused 0x3C tag .value s
       else
         let mask : BitVec 16 := BitVec.ofNat 16 (field body 0 2) ||| 1
         performed 0x3C tag (0x00 :: bytesOf 2 mask.toNat)
           (modLink (fun l => { l with mask := mask }) (hunted s)))

/-- R168: HELLO reports the family and part codes, the revision letter, the restart record and the link
error count, in which a gap that stood too long before the request is counted (R161), and changes nothing.
-/
def Obligations.HelloReportsThePart : Prop :=
  ∀ (tag : Byte) (s : State), accepting s →
    ∃ revision : Byte, 0x41 ≤ revision ∧ revision ≤ 0x5A ∧
      exec (.hello tag []) s =
        performed 0x3D tag
          ([0x00, 0x62, 0x28, revision] ++ s.link.restartRecord.bytes ++
            bytesOf 4 (hunted s).link.linkErrors.toNat)
          (hunted s)

/-! ### Tenants, segments and bindings (chapter 1) -/

/-- R2, R3: TENANT-DEFINE defines a tenant, opening its meters at zero where billing runs, or replaces the
three fields of a defined one. -/
def Obligations.TenantDefineCreatesOrReplaces : Prop :=
  ∀ (tag : Byte) (body : List Byte) (s : State), accepting s → body.length = 6 →
    (field body 0 1 = 0 ∨ 63 < field body 0 1 →
      exec (.tenantDefine tag body) s = refused 0x01 tag .value s) ∧
    ∀ t : TenantId, t ≠ 0 → field body 0 1 = t.val →
      let e := s.directory.tenants[t]
      exec (.tenantDefine tag body) s =
        if 16384 < field body 2 2 ∨ 4096 < field body 4 2 then refused 0x01 tag .value s
        else if e.defined = false ∧ e.retired = true then refused 0x01 tag .state s
        else
          performed 0x01 tag [0x00]
            { hunted s with
              directory :=
                { s.directory with
                  tenants :=
                    s.directory.tenants.set t
                      { defined := true, heldSet := BitVec.ofNat 8 (field body 1 1),
                        quotaCells := field body 2 2, stationLimit := field body 4 2,
                        retired := e.retired } }
              billing :=
                if e.defined = true ∨ s.billing.state = .stopped then s.billing
                else
                  { s.billing with
                    meters := s.billing.meters.set t (some (Meters.opened 0)) } }

/-- R4, R5: TENANT-REMOVE's checks in their order; a removal while billing runs first writes the REMOVED
record and retires the number. -/
def Obligations.TenantRemoveWritesItsRecord : Prop :=
  ∀ (tag : Byte) (body : List Byte) (s : State), accepting s → body.length = 1 →
    (field body 0 1 = 0 ∨ 63 < field body 0 1 →
      exec (.tenantRemove tag body) s = refused 0x02 tag .value s) ∧
    ∀ t : TenantId, t ≠ 0 → field body 0 1 = t.val →
      let e := s.directory.tenants[t]
      exec (.tenantRemove tag body) s =
        if e.defined = false then refused 0x02 tag .notFound s
        else if s.billing.lock = true then refused 0x02 tag .locked s
        else if segmentsOwned s t ≠ 0 ∨ boundPorts s t ≠ 0 then refused 0x02 tag .conflict s
        else if 0 < resident s t then refused 0x02 tag .conflict s
        else if s.billing.state = .stopped then
          performed 0x02 tag [0x00]
            { hunted s with
              directory :=
                { s.directory with
                  tenants := s.directory.tenants.set t { e with defined := false } } }
        else if 256 ≤ s.billing.queue.length then refused 0x02 tag .full s
        else
          performed 0x02 tag [0x00]
            { hunted s with
              directory :=
                { s.directory with
                  tenants :=
                    s.directory.tenants.set t { e with defined := false, retired := true } }
              billing :=
                { s.billing with
                  meters := s.billing.meters.set t none
                  queue :=
                    s.billing.queue ++
                      [{ epoch := s.billing.epoch, tenant := t,
                         flags :=
                          { locked := false, late := s.billing.overdue, final := false,
                            removed := true },
                         boundPorts := 0, heldSet := e.heldSet,
                         meters := s.billing.meters[t].getD (Meters.opened 0),
                         closingResident := 0 }] } }

/-- R6: TENANT-QUERY reports the entry, the learned count, the residency, the bound and staged ports and
the segments, and changes nothing. R30: STATION-STATUS sets a sweep period in range, starting the timer
again, and reports the figures as they then stand; without a period it changes nothing. That it lists the
defined tenants in ascending order is the model's choice (log 25). R6, R18, R20, R61: the figures of a tenant
and of a bucket are these sums. -/
def Obligations.TenantQueryAndStationStatusReport : Prop :=
  (∀ (t : TenantId) (s : State),
     let cells (st : Storage) : Nat :=
       (s.buffer.records.map fun kr =>
         if (kr.2.storage == st && kr.2.tenant == t) = true then kr.2.cells else 0).sum
     let bytes (q : List CopyEntry) : Nat :=
       (q.map fun c =>
         match s.buffer.records.lookup c.frame with
         | some r => if r.tenant = t then r.length else 0
         | none => 0).sum
     learnedCount s t = (s.stations.entries.countP fun e => e.kind != .fixed && e.tenant == t) ∧
       tenantCommon s t = cells .common ∧ tenantHeadroom s t = cells .headroom ∧
       resident s t =
         ((List.finRange 40).map fun p => bytes s.buffer.held[p] + bytes s.buffer.bulk[p]).sum ∧
       boundPorts s t =
         ((List.finRange 32).countP fun q =>
           s.directory.applied[q].map Binding.tenant == some t) ∧
       segmentsOwned s t =
         (s.directory.segments.toList.countP fun g => g.map Segment.owner == some t) ∧
       fullBuckets s =
         (List.range 1024).countP fun b =>
           decide (4 ≤ s.stations.entries.countP fun e => bucketOf e.segment e.address == b)) ∧
  (∀ (tag : Byte) (body : List Byte) (s : State), accepting s → body.length = 1 →
     (63 < field body 0 1 → exec (.tenantQuery tag body) s = refused 0x03 tag .value s) ∧
     ∀ t : TenantId, field body 0 1 = t.val →
       let e := s.directory.tenants[t]
       exec (.tenantQuery tag body) s =
         if e.defined = false then refused 0x03 tag .notFound s
         else
           performed 0x03 tag
             (0x00 ::
               (bytesOf 1 e.heldSet.toNat ++ bytesOf 2 e.quotaCells ++ bytesOf 2 e.stationLimit ++
                 bytesOf 2 (learnedCount s t) ++ bytesOf 8 (resident s t) ++
                 bytesOf 2 (tenantCommon s t) ++ bytesOf 2 (tenantHeadroom s t) ++
                 bytesOf 4
                   (setNat fun q : StationPort =>
                     (s.directory.applied[q].map Binding.tenant) == some t) ++
                 bytesOf 4
                   (setNat fun q : StationPort =>
                     (s.directory.staged[q].join.map Binding.tenant) == some t) ++
                 bytesOf 2 (segmentsOwned s t)))
             (hunted s)) ∧
  (∀ (tag : Byte) (body : List Byte) (s : State), accepting s →
     let tenants := (List.finRange 64).filter fun u : TenantId => s.directory.tenants[u].defined
     let figures (t : StationTable) : List Byte :=
       bytesOf 2 t.sweepPeriod ++ bytesOf 2 (t.sweepElapsed / 1000000) ++
         bytesOf 2 (t.entries.countP StationEntry.isLearned) ++
         bytesOf 2 (t.entries.countP fun e => e.kind == .fixed) ++ bytesOf 2 (fullBuckets s) ++
         bytesOf 4 t.moves.toNat ++ bytesOf 4 t.refusedBucket.toNat ++
         bytesOf 1 tenants.length ++
         tenants.flatMap fun u =>
           bytesOf 1 u.val ++ bytesOf 2 (learnedCount s u) ++ bytesOf 4 t.refusedLimit[u].toNat
     (body = [] →
       exec (.stationStatus tag body) s = performed 0x0C tag (0x00 :: figures s.stations) (hunted s)) ∧
     (body.length = 2 →
       exec (.stationStatus tag body) s =
         if 1 ≤ field body 0 2 ∧ field body 0 2 ≤ 3600 then
           let t := { s.stations with sweepPeriod := field body 0 2, sweepElapsed := 0 }
           performed 0x0C tag (0x00 :: figures t) { hunted s with stations := t }
         else refused 0x0C tag .value s))

/-- R12, R13: TENANT-BIND's checks in their order; under the lock while billing runs the binding is
staged, otherwise it is applied at once and a staged one is discarded. -/
def Obligations.TenantBindAppliesOrStages : Prop :=
  ∀ (tag : Byte) (body : List Byte) (s : State), accepting s → body.length = 4 →
    (31 < field body 0 1 ∨
        (field body 2 2 ≠ 0 ∧ (63 < field body 1 1 ∨ 1023 < field body 2 2)) →
      exec (.tenantBind tag body) s = refused 0x04 tag .value s) ∧
    ∀ (q : StationPort) (binding : Option Binding), field body 0 1 = q.val →
      ((field body 2 2 = 0 ∧ binding = none) ∨
        (field body 2 2 ≠ 0 ∧
          binding.map (fun b => (b.tenant.val, b.segment.val)) =
            some (field body 1 1, field body 2 2))) →
      exec (.tenantBind tag body) s =
        if s.ports[asPort q].link ≠ .disabled then refused 0x04 tag .state s
        else if
          binding.any (fun b =>
            b.tenant == 0 || !s.directory.tenants[b.tenant].defined ||
              s.directory.segments[b.segment].map Segment.owner != some b.tenant) = true then
          refused 0x04 tag .value s
        else if
          s.stations.entries.any (fun e =>
            e.kind == .fixed && e.target == .port q &&
              some e.segment != binding.map Binding.segment) = true then
          refused 0x04 tag .conflict s
        else if s.billing.lock = true ∧ s.billing.state ≠ .stopped then
          performed 0x04 tag [0x02]
            { hunted s with
              directory :=
                { s.directory with staged := s.directory.staged.set q (some binding) } }
        else
          performed 0x04 tag [0x00]
            { hunted s with
              directory :=
                { s.directory with
                  applied := s.directory.applied.set q binding
                  staged := s.directory.staged.set q none } }

/-- R8, R9: SEGMENT-DEFINE defines a segment, or changes the trunk group of one its owner has, flushing
its learned entries at a change. -/
def Obligations.SegmentDefineSetsTheSegment : Prop :=
  ∀ (tag : Byte) (body : List Byte) (s : State), accepting s → body.length = 4 →
    (field body 0 2 = 0 ∨ 1023 < field body 0 2 ∨ 2 < field body 3 1 ∨ field body 2 1 = 0 ∨
        63 < field body 2 1 →
      exec (.segmentDefine tag body) s = refused 0x05 tag .value s) ∧
    ∀ (g : SegmentId) (owner : TenantId) (group : Option Group), g ≠ 0 → owner ≠ 0 →
      field body 0 2 = g.val → field body 2 1 = owner.val →
      field body 3 1 = (group.map Group.code).getD 0 →
      (s.directory.tenants[owner].defined = false →
        exec (.segmentDefine tag body) s = refused 0x05 tag .value s) ∧
      (s.directory.tenants[owner].defined = true →
        (s.directory.segments[g] = none →
          exec (.segmentDefine tag body) s =
            performed 0x05 tag [0x00]
              { hunted s with
                directory :=
                  { s.directory with
                    segments :=
                      s.directory.segments.set g
                        (some { owner := owner, trunkGroup := group }) } }) ∧
        ∀ x : Segment, s.directory.segments[g] = some x →
          exec (.segmentDefine tag body) s =
            if x.owner ≠ owner then refused 0x05 tag .conflict s
            else if x.trunkGroup = group then performed 0x05 tag [0x00] (hunted s)
            else
              performed 0x05 tag [0x00]
                { hunted s with
                  directory :=
                    { s.directory with
                      segments :=
                        s.directory.segments.set g
                          (some { owner := owner, trunkGroup := group }) }
                  stations :=
                    { s.stations with
                      entries :=
                        s.stations.entries.filter fun e =>
                          !(e.isLearned && e.segment == g) } })

/-- R10: SEGMENT-REMOVE removes every entry of the segment and then the segment, unless a binding names
it. -/
def Obligations.SegmentRemoveClearsTheSegment : Prop :=
  ∀ (tag : Byte) (body : List Byte) (s : State), accepting s → body.length = 2 →
    (field body 0 2 = 0 ∨ 1023 < field body 0 2 →
      exec (.segmentRemove tag body) s = refused 0x06 tag .value s) ∧
    ∀ g : SegmentId, g ≠ 0 → field body 0 2 = g.val →
      exec (.segmentRemove tag body) s =
        if s.directory.segments[g] = none then refused 0x06 tag .notFound s
        else if
          ∃ q : StationPort,
            s.directory.applied[q].map Binding.segment = some g ∨
              s.directory.staged[q].join.map Binding.segment = some g then
          refused 0x06 tag .conflict s
        else
          performed 0x06 tag [0x00]
            { hunted s with
              directory :=
                { s.directory with segments := s.directory.segments.set g none }
              stations :=
                { s.stations with
                  entries := s.stations.entries.filter fun e => !(e.segment == g) } }

/-! ### The Station Table (chapter 2) -/

/-- R34: STATION-ADD's checks in their order; it pins a new entry, or converts or retargets the one it
finds. Where the new entry stands in the list is the model's choice (log 20). -/
def Obligations.StationAddPinsTheStation : Prop :=
  ∀ (tag : Byte) (body : List Byte) (s : State), accepting s → body.length = 9 →
    let a := addressAt body 2
    (field body 0 2 = 0 ∨ 1023 < field body 0 2 ∨ isGroupAddress a = true ∨
        (31 < field body 8 1 ∧ field body 8 1 ≠ 64 ∧ field body 8 1 ≠ 65) →
      exec (.stationAdd tag body) s = refused 0x08 tag .value s) ∧
    ∀ (g : SegmentId) (target : Target), g ≠ 0 → isGroupAddress a = false →
      field body 0 2 = g.val → field body 8 1 = target.code →
      (s.directory.segments[g] = none →
        exec (.stationAdd tag body) s = refused 0x08 tag .value s) ∧
      ∀ x : Segment, s.directory.segments[g] = some x →
        let allowed : Bool := match target with
          | .port q =>
            s.directory.applied[q] == some { tenant := x.owner, segment := g } &&
              s.directory.staged[q] == none
          | .group h => x.trunkGroup == some h
        exec (.stationAdd tag body) s =
          if allowed = false then refused 0x08 tag .value s
          else if findEntry? s g a = none ∧ 4 ≤ bucketUse s (bucketOf g a) then
            refused 0x08 tag .full s
          else
            performed 0x08 tag [0x00]
              { hunted s with
                stations :=
                  { s.stations with
                    entries :=
                      if findEntry? s g a = none then
                        insertEntry
                          { segment := g, address := a, kind := .fixed, target := target,
                            tenant := x.owner }
                          s.stations.entries
                      else
                        s.stations.entries.map fun e =>
                          if e.segment = g ∧ e.address = a then
                            { e with kind := .fixed, target := target }
                          else e } }

/-- R19: the bucket of a key, from its segment and the six bytes of its address. R35, R36: STATION-REMOVE
and STATION-FIND refuse a bad key VALUE and an absent one NOT_FOUND; the one removes the entry and reports
its kind and target, the other reports it and changes nothing. -/
def Obligations.StationRemoveAndFindNameOneEntry : Prop :=
  (∀ (g : SegmentId) (a : StationAddr),
     bucketOf g a = (g.val * 37 + ((List.range 6).map fun i => a.toNat / 256 ^ i % 256).sum) % 1024) ∧
  (∀ (tag : Byte) (body : List Byte) (s : State), accepting s → body.length = 8 →
     let a := addressAt body 2
     (field body 0 2 = 0 ∨ 1023 < field body 0 2 ∨ isGroupAddress a = true →
       exec (.stationRemove tag body) s = refused 0x09 tag .value s ∧
         exec (.stationFind tag body) s = refused 0x0A tag .value s) ∧
     ∀ g : SegmentId, g ≠ 0 → isGroupAddress a = false → field body 0 2 = g.val →
       (findEntry? s g a = none →
         exec (.stationRemove tag body) s = refused 0x09 tag .notFound s ∧
           exec (.stationFind tag body) s = refused 0x0A tag .notFound s) ∧
       ∀ e : StationEntry, findEntry? s g a = some e →
         exec (.stationRemove tag body) s =
           performed 0x09 tag [0x00, BitVec.ofNat 8 e.kind.code, BitVec.ofNat 8 e.target.code]
             { hunted s with
               stations :=
                 { s.stations with
                   entries :=
                     s.stations.entries.filter fun x => !(x.segment == g && x.address == a) } } ∧
         exec (.stationFind tag body) s =
           performed 0x0A tag
             ([0x00, BitVec.ofNat 8 e.kind.code, BitVec.ofNat 8 e.target.code,
               BitVec.ofNat 8 e.kind.seenCode, BitVec.ofNat 8 e.tenant.val] ++
                 bytesOf 2 (bucketOf g a))
             (hunted s))

/-- R37: STATION-FLUSH removes the learned entries of a segment, or for 0 of the whole table, and reports
how many; fixed entries stay. R28: a sweep that is due removes the learned entries whose seen mark is
clear, clears the marks of the others, leaves fixed entries, raises nothing, and starts its timer again
(R27); each tenant's learned count falls by its entries removed. -/
def Obligations.FlushAndSweepRemoveLearnedEntries : Prop :=
  (∀ (tag : Byte) (body : List Byte) (s : State), accepting s → body.length = 2 →
     let n := field body 0 2
     let gone (e : StationEntry) : Bool := e.isLearned && (n == 0 || e.segment.val == n)
     exec (.stationFlush tag body) s =
       if 1023 < n then refused 0x0B tag .value s
       else
         performed 0x0B tag (0x00 :: bytesOf 2 (s.stations.entries.countP gone))
           { hunted s with
             stations := { s.stations with entries := s.stations.entries.filter fun e => !gone e } }) ∧
  (∀ s : State, s.stations.sweepPeriod * 1000000 ≤ s.stations.sweepElapsed →
     let swept :=
       (s.stations.entries.filter fun e => e.kind != .learned false).map fun e =>
         if e.kind = .learned true then { e with kind := .learned false } else e
     exec .agingSweep s =
         .next { s with stations := { s.stations with entries := swept, sweepElapsed := 0 } } ∧
       ∀ u : TenantId,
         learnedCount { s with stations := { s.stations with entries := swept } } u =
           learnedCount s u -
             s.stations.entries.countP fun e => e.kind == .learned false && e.tenant == u)

/-- R21 to R25: what the source check of a classified frame does: to the Station Table, and to the LEARN-FULL
flag with its cause and the STATION-MOVE flag with its detail. A frame whose source a fixed entry pins
elsewhere is a spoof: it is counted at its port, refused as policy and metered to its tenant, and nothing is
stored. That the limit refuses a reinsertion after the sweep's own removal too is the model's reading, R23's
and R3's against R26's remark (log 30); where an entry stands in the list is the model's choice (log 20). -/
def Obligations.SourceCheckLearnsMovesAndGuards : Prop :=
  (∀ (c : Classified) (p : Port) (a : StationAddr) (s : State),
     let memberOf (set : BitVec 8) : Bool := decide (32 ≤ p.val) && set.getLsbD (p.val - 32)
     let notFull : Vector Bool 64 := Vector.replicate 64 false
     let full := s.link.notices.learnFull.getD ⟨notFull, notFull⟩
     let learns (t : StationTable) (detail : LearnFull) : State :=
       modNotices (fun n => { n with learnFull := some detail }) { s with stations := t }
     let rewrites (f : StationEntry → StationEntry) : StationTable :=
       { s.stations with
         entries :=
           s.stations.entries.map fun x => if x.segment = c.segment ∧ x.address = a then f x else x }
     isGroupAddress a = a.getLsbD 40 ∧
     groupOfPort s p =
       (if memberOf s.forwarding.groupA.members = true then some .a
         else if memberOf s.forwarding.groupB.members = true then some .b
         else none) ∧
     (∀ q : StationPort, p = asPort q → checkTarget s p = some (.port q)) ∧
     (32 ≤ p.val → checkTarget s p = (groupOfPort s p).map Target.group) ∧
     (isGroupAddress a = true ∨ checkTarget s p = none → sourceCheck c p a s = (s, false)) ∧
     ∀ target : Target, isGroupAddress a = false → checkTarget s p = some target →
       (findEntry? s c.segment a = none →
         sourceCheck c p a s =
           (if s.directory.tenants[c.tenant].stationLimit ≤ learnedCount s c.tenant then
               learns
                 { s.stations with
                   refusedLimit :=
                     s.stations.refusedLimit.set c.tenant (s.stations.refusedLimit[c.tenant] + 1) }
                 { full with limit := full.limit.set c.tenant true }
             else if 4 ≤ bucketUse s (bucketOf c.segment a) then
               learns { s.stations with refusedBucket := s.stations.refusedBucket + 1 }
                 { full with bucket := full.bucket.set c.tenant true }
             else
               { s with
                 stations :=
                   { s.stations with
                     entries :=
                       insertEntry
                         { segment := c.segment, address := a, kind := .learned true,
                           target := target, tenant := c.tenant }
                         s.stations.entries } }, false)) ∧
       ∀ e : StationEntry, findEntry? s c.segment a = some e →
         (e.kind ≠ .fixed → e.target = target →
           sourceCheck c p a s =
             ({ s with stations := rewrites fun x => { x with kind := .learned true } }, false)) ∧
         (e.kind ≠ .fixed → e.target ≠ target →
           sourceCheck c p a s =
             (modNotices (fun n => { n with stationMove := some (c.segment, a) })
               { s with
                 stations :=
                   { rewrites fun x => { x with kind := .learned true, target := target } with
                     moves := s.stations.moves + 1 } }, false)) ∧
         (e.kind = .fixed → e.target = target → sourceCheck c p a s = (s, false)) ∧
         (e.kind = .fixed → e.target ≠ target →
           sourceCheck c p a s = (modPort p (fun u => { u with spoof := u.spoof + 1 }) s, true))) ∧
  (∀ (e : StationEntry) (es : List StationEntry), (insertEntry e es).Perm (e :: es)) ∧
  ∀ (p : Port) (f : DataFrame) (c : Classified) (target : Target) (s : State), classified s p f →
    classify s p f = some c → checkTarget s p = some target →
    ∃ t, exec (.dataFrameArrival p f) s = .next t ∧
      (isGroupAddress f.src = true → t.stations = s.stations) ∧
      (isGroupAddress f.src = false →
        (findEntry? s c.segment f.src = none →
          t.stations =
            if s.directory.tenants[c.tenant].stationLimit ≤ learnedCount s c.tenant then
              { s.stations with
                refusedLimit :=
                  s.stations.refusedLimit.set c.tenant (s.stations.refusedLimit[c.tenant] + 1) }
            else if 4 ≤ bucketUse s (bucketOf c.segment f.src) then
              { s.stations with refusedBucket := s.stations.refusedBucket + 1 }
            else
              { s.stations with
                entries :=
                  insertEntry
                    { segment := c.segment, address := f.src, kind := .learned true, target := target,
                      tenant := c.tenant }
                    s.stations.entries }) ∧
        ∀ e : StationEntry, findEntry? s c.segment f.src = some e →
          (e.kind ≠ .fixed →
            t.stations =
              { s.stations with
                entries :=
                  s.stations.entries.map fun x =>
                    if x.segment = c.segment ∧ x.address = f.src then
                      { x with
                        kind := .learned true
                        target := if e.target = target then x.target else target }
                    else x
                moves := if e.target = target then s.stations.moves else s.stations.moves + 1 }) ∧
          (e.kind = .fixed → t.stations = s.stations) ∧
          (e.kind = .fixed → e.target ≠ target →
            t.ports[p].spoof = s.ports[p].spoof + 1 ∧ t.buffer = s.buffer ∧
              t.forwarding.refusedPolicy[p] = s.forwarding.refusedPolicy[p] + 1 ∧
              t.billing =
                if s.billing.state = .stopped then s.billing
                else
                  { s.billing with
                    meters :=
                      s.billing.meters.set c.tenant
                        (s.billing.meters[c.tenant].map fun m =>
                          { m with refusedPolicy := m.refusedPolicy + BitVec.ofNat 64 f.length }) }))

/-! ### Forwarding (chapter 3) -/

/-- R51: TRUNK-GROUP's checks in their order; the member set is replaced and the UP membership stays. -/
def Obligations.TrunkGroupReplacesTheMembers : Prop :=
  ∀ (tag : Byte) (body : List Byte) (s : State), accepting s → body.length = 2 →
    (field body 0 1 ≠ 1 → field body 0 1 ≠ 2 →
      exec (.trunkGroup tag body) s = refused 0x10 tag .value s) ∧
    ∀ g : Group, field body 0 1 = g.code →
      let set := BitVec.ofNat 8 (field body 1 1)
      let other := groupTables s (match g with | .a => .b | .b => .a)
      let effect : State := match g with
        | .a =>
          { hunted s with
            forwarding :=
              { s.forwarding with groupA := { s.forwarding.groupA with members := set } } }
        | .b =>
          { hunted s with
            forwarding :=
              { s.forwarding with groupB := { s.forwarding.groupB with members := set } } }
      exec (.trunkGroup tag body) s =
        if set &&& other.members ≠ 0 then refused 0x10 tag .conflict s
        else if
          ∃ p : Port, 32 ≤ p.val ∧
            set.getLsbD (p.val - 32) ≠ (groupTables s g).members.getLsbD (p.val - 32) ∧
            s.ports[p].link ≠ .disabled then
          refused 0x10 tag .state s
        else performed 0x10 tag [0x00] effect

/-- R53: FORWARD-STATUS reports both groups and the three counts of every port, and changes nothing. -/
def Obligations.ForwardStatusReportsGroupsAndCounts : Prop :=
  ∀ (tag : Byte) (s : State), accepting s →
    exec (.forwardStatus tag []) s =
      performed 0x11 tag
        ([0x00, s.forwarding.groupA.members, s.forwarding.groupA.up, s.forwarding.groupB.members,
            s.forwarding.groupB.up] ++
          (List.finRange 40).flatMap fun p =>
            bytesOf 4 s.forwarding.filtered[p].toNat ++
              bytesOf 4 s.forwarding.refusedPolicy[p].toNat ++
              bytesOf 4 s.forwarding.refusedUnavailable[p].toNat)
        (hunted s)

/-- R104, Table 6-4: what the arrival of a data frame does, by the frame's check and the link state.
R15, R16, R17, R38: a station frame takes its port's binding and default priority, a trunk frame its
tag's segment and its own priority; an unattributed frame is refused as policy to tenant 0 and reaches
no other block. That a reception whose beginning was not reported began at its arrival is the model's
reading (log 15). -/
def Obligations.DataFramesArriveAndAreClassified : Prop :=
  (∀ (p : Port) (f : DataFrame) (s : State),
     let u := s.ports[p]
     let arrived :=
       modPort p
         (fun u =>
           if p.val < 32 ∧ u.link = .up then
             { u with
               reception := none, quiet := false, quietTimer := some (u.config.quietMs * 1000) }
           else { u with reception := none }) s
     (¬ received s p → exec (.dataFrameArrival p f) s = .next (conclude s arrived)) ∧
     (received s p → f.goodCheck = false ∨ f.length < 64 ∨ 9216 < f.length →
       exec (.dataFrameArrival p f) s = .next (conclude s (errorEvent p arrived))) ∧
     (received s p → f.goodCheck = true → 64 ≤ f.length → f.length ≤ 9216 →
       exec (.dataFrameArrival p f) s =
         .next
           (conclude s
             (if u.link = .up ∧ (receptionOf s p).changed = false then decideFrame p f arrived
               else arrived)))) ∧
  (∀ (p : Port) (f : DataFrame) (s : State),
     (∀ q : StationPort, p = asPort q →
       classify s p f =
         s.directory.applied[q].map fun b =>
           { tenant := b.tenant, segment := b.segment,
             cls :=
               if s.directory.tenants[b.tenant].heldSet.getLsbD s.ports[p].config.defaultPriority then
                 .held
               else .bulk }) ∧
     (32 ≤ p.val → f.tag = 0 ∨ 1023 < f.tag → classify s p f = none) ∧
     (32 ≤ p.val → ∀ g : SegmentId, g ≠ 0 → f.tag = g.val →
       (s.directory.segments[g] = none → classify s p f = none) ∧
       ∀ x : Segment, s.directory.segments[g] = some x →
         classify s p f =
           if x.trunkGroup ≠ none ∧ x.trunkGroup = groupOfPort s p then
             some
               { tenant := x.owner, segment := g,
                 cls :=
                   if s.directory.tenants[x.owner].heldSet.getLsbD f.priority.val then .held else .bulk }
           else none) ∧
     (classify s p f = none →
       decideFrame p f s =
         { s with
           forwarding :=
             { s.forwarding with
               refusedPolicy :=
                 s.forwarding.refusedPolicy.set p (s.forwarding.refusedPolicy[p] + 1) }
           billing :=
             if s.billing.state = .stopped then s.billing
             else
               { s.billing with
                 meters :=
                   s.billing.meters.set 0
                     (s.billing.meters[(0 : TenantId)].map fun m =>
                       { m with refusedPolicy := m.refusedPolicy + BitVec.ofNat 64 f.length }) } }))

/-- R48, R49: the flow hash adds the bytes of both addresses and the segment; the member selected for a
hash is the one at that position, modulo their number, of the UP members in ascending order. R39 to R44:
every copy list is ascending, names no port twice and never the ingress port, and has at most 32 copies; a
known destination gets one copy or one refusal, and a flood reaches the UP ports bound to the segment and
one member of its trunk group, with one policy refusal for each UP port bound to the segment whose tenant is
another (R41, R43). R38, R42, R45 to R47: a classified frame whose source check is spoof is one policy
refusal; any other has its destination looked up after the check, each refusal of its copy list is counted at
the ingress port and metered to its tenant, and the list is handed to admission; a frame with neither copies
nor refusals is filtered. -/
def Obligations.CopyListsFollowTheDestination : Prop :=
  (∀ (g : SegmentId) (f : DataFrame),
     let sum (x : StationAddr) : Nat :=
       ((List.range 6).map fun i => x.toNat / 256 ^ i % 256).sum
     (flowHash g f).val = (sum f.dst + sum f.src + g.val) % 256) ∧
  (∀ (s : State) (g : Group) (h : Fin 256),
     let members := (List.finRange 40).filter fun p =>
       decide (32 ≤ p.val) && (groupTables s g).up.getLsbD (p.val - 32)
     selectMember s g h = members[h.val % members.length]?) ∧
  (∀ (s : State) (c : Classified) (p : Port) (h : Fin 256),
     (∀ dest : Option Target,
       let list := (copyList s c p dest h).copies
       list.Pairwise (fun a b => a.val < b.val) ∧ p ∉ list ∧ list.length ≤ 32) ∧
     (∀ q : StationPort,
       copyList s c p (some (.port q)) h =
         if asPort q = p then ⟨[], []⟩
         else if s.ports[asPort q].link ≠ .up then ⟨[], [.unavailable]⟩
         else if s.directory.applied[q].map Binding.tenant = some c.tenant then ⟨[asPort q], []⟩
         else ⟨[], [.policy]⟩) ∧
     (∀ g : Group, 32 ≤ p.val → copyList s c p (some (.group g)) h = ⟨[], [.policy]⟩) ∧
     (∀ g : Group, p.val < 32 →
       copyList s c p (some (.group g)) h =
         if s.directory.segments[c.segment].bind Segment.trunkGroup ≠ some g then ⟨[], [.policy]⟩
         else
           match selectMember s g h with
           | some m => ⟨[m], []⟩
           | none => ⟨[], [.unavailable]⟩) ∧
     (∀ q : Port, q ∈ (copyList s c p none h).copies ↔
       (∃ b : Binding, appliedBinding s q = some b ∧ b.segment = c.segment ∧ b.tenant = c.tenant ∧
           q ≠ p ∧ s.ports[q].link = .up) ∨
         (p.val < 32 ∧
           ∃ g : Group, s.directory.segments[c.segment].bind Segment.trunkGroup = some g ∧
             selectMember s g h = some q)) ∧
     (copyList s c p none h).refusals =
       ((List.finRange 40).filter fun q =>
         q != p && s.ports[q].link == .up &&
           (appliedBinding s q).any fun b => b.segment == c.segment && b.tenant != c.tenant).map
         fun _ => .policy) ∧
  (∀ (p : Port) (f : DataFrame) (c : Classified) (s : State), classify s p f = some c →
     let checked := sourceCheck c p f.src s
     let u := checked.1
     let refusing (policy unavailable : Nat) : State :=
       { u with
         forwarding :=
           { u.forwarding with
             refusedPolicy :=
               u.forwarding.refusedPolicy.set p
                 (u.forwarding.refusedPolicy[p] + BitVec.ofNat 32 policy)
             refusedUnavailable :=
               u.forwarding.refusedUnavailable.set p
                 (u.forwarding.refusedUnavailable[p] + BitVec.ofNat 32 unavailable) }
         billing :=
           if u.billing.state = .stopped then u.billing
           else
             { u.billing with
               meters :=
                 u.billing.meters.set c.tenant
                   (u.billing.meters[c.tenant].map fun m =>
                     { m with
                       refusedPolicy := m.refusedPolicy + BitVec.ofNat 64 (policy * f.length)
                       refusedUnavailable :=
                         m.refusedUnavailable + BitVec.ofNat 64 (unavailable * f.length) }) } }
     let destination : Option Target :=
       if isGroupAddress f.dst = true then none
       else (findEntry? u c.segment f.dst).map StationEntry.target
     let list := copyList u c p destination (flowHash c.segment f)
     let refused := refusing (list.refusals.count .policy) (list.refusals.count .unavailable)
     (checked.2 = true → decideFrame p f s = refusing 1 0) ∧
       (checked.2 = false →
         (list.copies = [] → list.refusals = [] →
           decideFrame p f s =
             { u with
               forwarding :=
                 { u.forwarding with
                   filtered := u.forwarding.filtered.set p (u.forwarding.filtered[p] + 1) } }) ∧
         (list.copies = [] → list.refusals ≠ [] → decideFrame p f s = refused) ∧
         (list.copies ≠ [] →
           decideFrame p f s =
             admission
               { tenant := c.tenant, ingress := p, cls := c.cls, flowHash := flowHash c.segment f,
                 data := f, copies := list.copies } refused)))

/-! ### The shared buffer and the egress queues (chapter 4) -/

/-- R62 to R65: a copy list finds its storage in the common pool under the quota, else, for a held frame,
in the ingress port's headroom, else it is refused whole; the copies that fit their queues, as far as copy
entries last, go to the tails of their queues with one record counting them, and each copy is reported as
admitted, marked or refused. R77, R81: the held queues that take copies are evaluated; R67: the scheduler
selects on every port that takes one. Nothing else changes but what these two do. -/
def Obligations.AdmissionStoresThePassingCopies : Prop :=
  ∀ (o : Offer) (s : State), o.copies.Nodup →
    let c := (o.data.length + 255) / 256
    let quota := s.directory.tenants[o.tenant].quotaCells
    let storage : Option Storage :=
      if tenantCommon s o.tenant + c ≤ quota ∧ c ≤ commonFree s then some .common
      else if o.cls = .held ∧ headroomInUse s o.ingress + c ≤ allowance s o.ingress then some .headroom
      else none
    let reported (admitted marked refused : Nat) : State :=
      if s.billing.state = .stopped then s
      else
        { s with
          billing :=
            { s.billing with
              meters :=
                s.billing.meters.set o.tenant
                  (s.billing.meters[o.tenant].map fun m =>
                    { m with
                      admittedBytes := m.admittedBytes + BitVec.ofNat 64 (admitted * o.data.length)
                      admittedCopies := m.admittedCopies + BitVec.ofNat 64 admitted
                      markedCopies := m.markedCopies + BitVec.ofNat 64 marked
                      refusedCongestion :=
                        m.refusedCongestion + BitVec.ofNat 64 (refused * o.data.length) }) } }
    let t := admission o s
    (storage = none ∨ 8192 ≤ s.buffer.records.length → t = reported 0 0 o.copies.length) ∧
    ∀ st : Storage, storage = some st → s.buffer.records.length < 8192 →
      let fits (q : Port) : Bool := match o.cls, st with
        | .bulk, _ => occupancy s.buffer s.buffer.bulk[q] + c ≤ s.relief.settings.bulkLimit
        | .held, .common => occupancy s.buffer s.buffer.held[q] + c ≤ s.relief.settings.heldLimit
        | .held, .headroom => true
      let passed := (o.copies.filter fits).take (16384 - entriesInUse s.buffer)
      let marked (q : Port) : Bool :=
        o.cls = .bulk ∧ s.relief.settings.markThreshold ≤ occupancy s.buffer s.buffer.bulk[q]
      (∀ m : Meters, s.billing.state ≠ .stopped → s.billing.meters[o.tenant] = some m →
        t.billing.meters[o.tenant] =
          some
            { m with
              admittedBytes := m.admittedBytes + BitVec.ofNat 64 (passed.length * o.data.length)
              admittedCopies := m.admittedCopies + BitVec.ofNat 64 passed.length
              markedCopies := m.markedCopies + BitVec.ofNat 64 (passed.countP marked)
              refusedCongestion :=
                m.refusedCongestion +
                  BitVec.ofNat 64 ((o.copies.length - passed.length) * o.data.length) }) ∧
      (passed = [] → t = reported 0 0 o.copies.length) ∧
      (passed ≠ [] → ∃ (id : Nat) (u : State), frameOf? s.buffer id = none ∧
        u =
          { reported passed.length (passed.countP marked) (o.copies.length - passed.length) with
            buffer := u.buffer } ∧
        u.buffer.records = t.buffer.records ∧ u.buffer.streak = s.buffer.streak ∧
        (∀ (cls : TrafficClass) (q : Port),
          queueOf u.buffer cls q =
            queueOf s.buffer cls q ++
              if cls = o.cls ∧ q ∈ passed then
                [{ frame := id, marked := marked q, inTransmission := false }]
              else []) ∧
        t =
          passed.foldl (fun v q => schedule q v)
            (match o.cls with
              | .held => passed.foldl (fun v q => evaluateQueue q v) u
              | .bulk => u) ∧
        frameOf? t.buffer id =
          some
            { tenant := o.tenant, ingress := o.ingress, cls := o.cls, length := o.data.length,
              cells := c, storage := st, flowHash := o.flowHash, copiesRemaining := passed.length,
              data := o.data } ∧
        (∀ other : Nat, other ≠ id → frameOf? t.buffer other = frameOf? s.buffer other) ∧
        ∀ (cls : TrafficClass) (q : Port),
          (queueOf t.buffer cls q).map (fun e => (e.frame, e.marked)) =
            (queueOf s.buffer cls q).map (fun e => (e.frame, e.marked)) ++
              if cls = o.cls ∧ q ∈ passed then [(id, marked q)] else [])

/-- R69: a completion delivers the copy at the head of the queue that is being sent: it leaves, its record
counts one copy less and is freed at the last, and the tenant's meters count the delivery. A port that
sends nothing completes nothing (log 4). R91, R105: the waiting pause or release goes out, then the waiting
beacon; then the scheduler selects (R67), and a held queue whose occupancy has changed is evaluated (R77). That
all this comes before a pause of the same event is handed is the model's choice (log 13), and so is the record
of the lines (log 17). R70, R73, R74: a flush aborts a transmission, empties both queues of its port and no
other, each copy counted in its record and in its tenant's flushed bytes once; the held queue is evaluated, and
the count of copies is handed back. That the held streak becomes 0 where both queues were empty already, is the
model's reading of R67 and R73 (log 34). -/
def Obligations.CopiesLeaveByCompletionOrFlush : Prop :=
  (∀ (p : Port) (s : State), bufferSound s.buffer →
     (sendingClass s p = none → exec (.transmissionCompletion p) s = .next s) ∧
     ∀ (cls : TrafficClass) (c : CopyEntry) (rest : List CopyEntry) (r : StoredFrame),
       sendingClass s p = some cls → queueOf s.buffer cls p = c :: rest →
       frameOf? s.buffer c.frame = some r →
       ∃ t u : State, exec (.transmissionCompletion p) s = .next t ∧
         (let v := schedule p u
          t =
            conclude s
              (if occupancy v.buffer v.buffer.held[p] = occupancy s.buffer s.buffer.held[p] then v
                else evaluateQueue p v)) ∧
         u =
           { modPort p (fun x => { x with waitingControl := none, waitingBeacon := none }) s with
             buffer := u.buffer
             billing := t.billing
             lineOut :=
               s.lineOut ++ (s.ports[p].waitingControl.map (LineOut.control p)).toList ++
                 (s.ports[p].waitingBeacon.map (LineOut.beacon p)).toList } ∧
         u.buffer.records = t.buffer.records ∧ u.buffer.streak = s.buffer.streak ∧
         queueOf u.buffer cls p = rest ∧
         (∀ (k : TrafficClass) (q : Port), ¬ (k = cls ∧ q = p) →
           queueOf u.buffer k q = queueOf s.buffer k q) ∧
         (queueOf t.buffer cls p).map CopyEntry.frame = rest.map CopyEntry.frame ∧
         (∀ (k : TrafficClass) (q : Port), ¬ (k = cls ∧ q = p) →
           (queueOf t.buffer k q).map CopyEntry.frame =
             (queueOf s.buffer k q).map CopyEntry.frame) ∧
         frameOf? t.buffer c.frame =
           (if r.copiesRemaining = 1 then none
             else some { r with copiesRemaining := r.copiesRemaining - 1 }) ∧
         (∀ id : Nat, id ≠ c.frame → frameOf? t.buffer id = frameOf? s.buffer id) ∧
         t.billing =
           (if s.billing.state = .stopped then s.billing
             else
               { s.billing with
                 meters :=
                   s.billing.meters.set r.tenant
                     (s.billing.meters[r.tenant].map fun m =>
                       { m with
                         deliveredBytes := m.deliveredBytes + BitVec.ofNat 64 r.length
                         deliveredCopies := m.deliveredCopies + 1 }) }) ∧
         t.directory = s.directory ∧ t.stations = s.stations ∧ t.forwarding = s.forwarding ∧
         t.measurement = s.measurement) ∧
  (∀ (p : Port) (s : State),
     let t := (flushPort p s).1
     (flushPort p s).2 = s.buffer.held[p].length + s.buffer.bulk[p].length ∧
       t.buffer.held[p] = [] ∧ t.buffer.bulk[p] = [] ∧ t.buffer.streak[p] = 0 ∧
       (∀ q : Port, q ≠ p →
         t.buffer.held[q] = s.buffer.held[q] ∧ t.buffer.bulk[q] = s.buffer.bulk[q] ∧
           t.buffer.streak[q] = s.buffer.streak[q]) ∧
       (let u : State :=
          { s with
            buffer := t.buffer
            billing := { s.billing with meters := t.billing.meters }
            lineOut := s.lineOut ++ if lineBusy s p = true then [.abort p] else [] }
        t = if occupancy s.buffer s.buffer.held[p] = 0 then u else evaluateQueue p u) ∧
       (s.billing.state = .stopped → t.billing = s.billing) ∧
       (bufferSound s.buffer →
         (∀ (id : Nat) (r : StoredFrame), frameOf? s.buffer id = some r →
           let lost :=
             (s.buffer.held[p] ++ s.buffer.bulk[p]).countP fun c => c.frame == id
           frameOf? t.buffer id =
             if r.copiesRemaining = lost then none
             else some { r with copiesRemaining := r.copiesRemaining - lost }) ∧
         ∀ (u : TenantId) (m : Meters), s.billing.state ≠ .stopped →
           s.billing.meters[u] = some m →
           t.billing.meters[u] =
             some
               { m with
                 flushedBytes :=
                   m.flushedBytes +
                     BitVec.ofNat 64
                       (queueBytes s.buffer u s.buffer.held[p] +
                         queueBytes s.buffer u s.buffer.bulk[p]) }))

/-- R67, R68: the scheduler of a free transmitter on an UP port takes the held queue's head, unless
that queue is paused or eight held copies have gone before a waiting bulk copy; else the bulk queue's;
the head begins transmission, a marked copy with the congestion indication. R71, R104: the beginning
of a reception notes the link state; a pause received holds the held queue for its time, a release, a
pause of time 0 or the timer's end lets the scheduler select again; in the states that do not receive,
or after a fence or disable, the frame does nothing but count for the quiet detector. What a fence or
disable since the beginning of a reception cuts is the model's reading (log 15). The record of what goes out
on the lines is the model's own (log 17), and that a copy goes out, on a trunk too, as its frame was received
is the model's choice (log 29). -/
def Obligations.SchedulerPrefersHeldUnlessPeerPaused : Prop :=
  (∀ (p : Port) (s : State),
     let u := s.ports[p]
     let n := s.buffer.streak[p]
     (u.link ≠ .up ∨ lineBusy s p = true → schedule p s = s) ∧
     (u.link = .up → lineBusy s p = false →
       (∀ (c : CopyEntry) (rest : List CopyEntry) (r : StoredFrame), s.buffer.held[p] = c :: rest →
         u.peerPause = none → n < 8 ∨ s.buffer.bulk[p] = [] → frameOf? s.buffer c.frame = some r →
         schedule p s =
           { s with
             buffer :=
               { s.buffer with
                 held := s.buffer.held.set p ({ c with inTransmission := true } :: rest)
                 streak := s.buffer.streak.set p (min 8 (n + 1)) }
             lineOut := s.lineOut ++ [.dataFrame p r.data c.marked] }) ∧
       (s.buffer.held[p] = [] ∨ u.peerPause ≠ none ∨ (8 ≤ n ∧ s.buffer.bulk[p] ≠ []) →
         (s.buffer.bulk[p] = [] → schedule p s = s) ∧
         ∀ (c : CopyEntry) (rest : List CopyEntry) (r : StoredFrame), s.buffer.bulk[p] = c :: rest →
           frameOf? s.buffer c.frame = some r →
           schedule p s =
             { s with
               buffer :=
                 { s.buffer with
                   bulk := s.buffer.bulk.set p ({ c with inTransmission := true } :: rest)
                   streak := s.buffer.streak.set p 0 }
               lineOut := s.lineOut ++ [.dataFrame p r.data c.marked] }))) ∧
  (∀ (p : Port) (s : State),
     let arrived := arrive p s
     let freed (t : State) : State :=
       if s.ports[p].peerPause = none then t
       else schedule p (modPort p (fun u => { u with peerPause := none }) t)
     exec (.frameReceptionBegin p) s =
         .next
           (modPort p
             (fun u =>
               { u with
                 reception :=
                   some { noted := u.link, changed := false, cut := false, silencedAt := none } })
             s) ∧
       (∀ time : BitVec 16,
         (received s p → time ≠ 0 →
           exec (.pauseFrameReceived p time) s =
             .next (modPort p (fun u => { u with peerPause := some time.toNat }) arrived)) ∧
         (received s p → exec (.pauseFrameReceived p 0) s = .next (freed arrived)) ∧
         (¬ received s p → exec (.pauseFrameReceived p time) s = .next arrived)) ∧
       (received s p → exec (.releaseFrameReceived p) s = .next (freed arrived)) ∧
       (¬ received s p → exec (.releaseFrameReceived p) s = .next arrived) ∧
       (s.ports[p].peerPause = some 0 → exec (.peerPauseExpiry p) s = .next (freed s)))

/-- R78, R97, Table 10-5: BUFFER-QUERY and RELIEF-QUERY report in bodies of 497 bytes and of at most 1,024, in
the layouts of Table 10-5, and change nothing; RELIEF-QUERY carries the CONGESTED queues in ascending order as
far as they fit, and counts those left out. That a queue's contributors stand in ascending order is the model's
choice (log 25). R54, R55, R59, R60, R77: the figures are these sums. -/
def Obligations.BufferAndReliefReportsFitTheirLayouts : Prop :=
  (∀ s : State,
     let b := s.buffer
     let cells (keep : StoredFrame → Bool) : Nat :=
       (b.records.map fun kr => if keep kr.2 = true then kr.2.cells else 0).sum
     let reserved := ((List.finRange 40).map fun p : Port => allowance s p).sum
     (∀ p : Port,
       headroomInUse s p = cells (fun r => r.storage == .headroom && r.ingress == p) ∧
         allowance s p =
           if s.ports[p].config.enabled = true then s.ports[p].config.headroomCells
           else headroomInUse s p) ∧
     reserve s = reserved ∧ commonPoolSize s = 16384 - reserved ∧
     commonInUse s = cells (fun r => r.storage == .common) ∧
     commonFree s = 16384 - reserved - commonInUse s ∧
     headroomInUseAll s = cells (fun r => r.storage == .headroom) ∧
     freeCells s = 16384 - commonInUse s - headroomInUseAll s ∧
     entriesInUse b = ((List.finRange 40).map fun p => b.held[p].length + b.bulk[p].length).sum ∧
     ∀ q : List CopyEntry,
       occupancy b q =
           (q.map fun c => ((b.records.lookup c.frame).map StoredFrame.cells).getD 0).sum ∧
         ∀ p : Port,
           cellsFrom b q p =
             (q.map fun c =>
               match b.records.lookup c.frame with
               | some r => if r.ingress = p then r.cells else 0
               | none => 0).sum) ∧
  ∀ (tag : Byte) (s : State), accepting s →
    let b := s.buffer
    let r := s.relief
    let flag (x : Bool) : Byte := if x = true then 1 else 0
    let byte (n : Nat) : Byte := BitVec.ofNat 8 n
    let queue (q : List CopyEntry) : List Byte := bytesOf 2 (occupancy b q) ++ bytesOf 2 q.length
    let contributors (q : Port) : List Port :=
      (List.finRange 40).filter fun p => r.contributors[q][p]
    let parts : List (List Byte) :=
      ((List.finRange 40).filter fun q => r.congested[q]).map fun q =>
        ([byte q.val] : List Byte) ++ bytesOf 2 (occupancy b b.held[q]) ++
          [byte (contributors q).length] ++
          (contributors q).flatMap fun p => byte p.val :: bytesOf 2 (cellsFrom b b.held[q] p)
    exec (.bufferQuery tag []) s = performed 0x14 tag (0x00 :: bufferReport s) (hunted s) ∧
      (bufferReport s).length = 496 ∧
      bufferReport s =
        [reserve s, commonPoolSize s, commonInUse s, commonFree s, headroomInUseAll s, freeCells s,
            b.records.length, entriesInUse b].flatMap (bytesOf 2) ++
          ((List.finRange 40).flatMap fun p => queue b.held[p] ++ queue b.bulk[p]) ++
          ((List.finRange 40).flatMap fun p =>
            [byte (allowance s p), byte (headroomInUse s p), byte b.streak[p],
              flag s.ports[p].peerPause.isSome]) ∧
      exec (.reliefQuery tag []) s = performed 0x19 tag (0x00 :: reliefReport s) (hunted s) ∧
      498 ≤ (reliefReport s).length ∧ (reliefReport s).length ≤ 1023 ∧
      ∃ carried : Nat, carried ≤ parts.length ∧
        reliefReport s =
          [r.settings.bulkLimit, r.settings.markThreshold, r.settings.heldLimit, r.settings.paceOn,
              r.settings.paceOff, r.settings.share, r.settings.pauseTime,
              r.settings.releaseTime].flatMap (bytesOf 2) ++
            ((List.finRange 40).flatMap fun p =>
              [flag r.paced[p], byte r.generators[p].state.code] ++
                bytesOf 2 (r.generators[p].timer.getD 0) ++
                bytesOf 4 r.generators[p].pausesSent.toNat ++
                bytesOf 4 r.generators[p].releasesSent.toNat) ++
            [byte carried, byte (parts.length - carried)] ++ (parts.take carried).flatten ∧
        (carried < parts.length → 1023 < 498 + (parts.take (carried + 1)).flatten.length)

/-! ### Congestion relief (chapter 5) -/

/-- R80: RELIEF-SET refuses settings outside their ranges or against their relations; otherwise it
replaces all eight and reports them. -/
def Obligations.ReliefSetReplacesAllSettings : Prop :=
  ∀ (tag : Byte) (body : List Byte) (s : State), accepting s → body.length = 16 →
    let r : ReliefSettings :=
      { bulkLimit := field body 0 2, markThreshold := field body 2 2, heldLimit := field body 4 2,
        paceOn := field body 6 2, paceOff := field body 8 2, share := field body 10 2,
        pauseTime := field body 12 2, releaseTime := field body 14 2 }
    exec (.reliefSet tag body) s =
      if 1 ≤ r.bulkLimit ∧ r.bulkLimit ≤ 16384 ∧ 1 ≤ r.heldLimit ∧ r.heldLimit ≤ 16384 ∧
          1 ≤ r.share ∧ r.share ≤ 16384 ∧ 1 ≤ r.pauseTime ∧ 1 ≤ r.releaseTime ∧
          r.markThreshold < r.bulkLimit ∧ r.paceOff < r.paceOn ∧ r.paceOn ≤ r.heldLimit then
        performed 0x18 tag (0x00 :: body) { hunted s with relief := { s.relief with settings := r } }
      else refused 0x18 tag .value s

/-- R81 to R83: at a change of its occupancy a held queue becomes CONGESTED at pace_on and CLEAR at
pace_off, its contributors are the UP ports that hold share of its cells while it is CONGESTED, a change
of state joins the RELIEF flag, and nothing else changes. -/
def Obligations.CongestionFollowsItsThresholds : Prop :=
  ∀ (q : Port) (s : State),
    let t := evaluateQueue q s
    let was := s.relief.congested[q]
    let occ := occupancy s.buffer s.buffer.held[q]
    let now : Bool :=
      if was = true then decide (s.relief.settings.paceOff < occ)
      else decide (s.relief.settings.paceOn ≤ occ)
    t.relief.congested = s.relief.congested.set q now ∧
      (∀ i : Port,
        t.relief.contributors[q][i] =
          (now && s.ports[i].link == .up &&
            decide (s.relief.settings.share ≤ cellsFrom s.buffer s.buffer.held[q] i))) ∧
      (∀ i : Port, i ≠ q → t.relief.contributors[i] = s.relief.contributors[i]) ∧
      t.link.notices =
        (if was = now then s.link.notices
          else
            { s.link.notices with
              relief := some ((s.link.notices.relief.getD PortSet.empty).set q true) }) ∧
      t.relief.settings = s.relief.settings ∧ t.relief.paced = s.relief.paced ∧
      t.relief.generators = s.relief.generators ∧ t.buffer = s.buffer ∧ t.ports = s.ports ∧
      t.billing = s.billing ∧ t.directory = s.directory ∧ t.stations = s.stations ∧
      t.forwarding = s.forwarding ∧ t.measurement = s.measurement ∧ t.now = s.now ∧
      t.lineOut = s.lineOut ∧ t.freeCount = s.freeCount ∧ t.pending = s.pending ∧
      t.link = { s.link with notices := t.link.notices }

/-- R86 to R91: a generator begins PAUSING when its port becomes paced, lets a phase run when it stops
being paced, ends RELEASING at once, and at a phase's expiry hands a release, or the next pause, to the
line: at once on an idle line, in the waiting place on a busy one. R85, R96, R116: the end of an event: every
port's paced condition is right again and handed to its generator, and the health conditions that have become
current are latched beside those held. R115, Table 6-6: the eight conditions. The order of the ports at the end
of an event, the record of the lines, and that an enable that finds line_good no latches LINE_LOST are the
model's choices and reading (logs 17, 31). -/
def Obligations.EventsSettlePacingAndGenerators : Prop :=
  (∀ (p : Port) (s : State),
     let g := s.relief.generators[p]
     let r := s.relief.settings
     let hands (c : ControlFrame) (t : State) : State :=
       if lineBusy s p = true then modPort p (fun u => { u with waitingControl := some c }) t
       else { t with lineOut := s.lineOut ++ [.control p c] }
     let runs (g' : Generator) (t : State) : State :=
       { t with relief := { t.relief with generators := s.relief.generators.set p g' } }
     let pause := hands (.pause (min 65535 (r.pauseTime + 50)))
     let pausing : Generator :=
       { g with state := .pausing, timer := some r.pauseTime, pausesSent := g.pausesSent + 1 }
     let flagged (b : Bool) : State :=
       { s with relief := { s.relief with paced := s.relief.paced.set p b } }
     (g.state = .pausing → g.timer = some 0 →
       exec (.pausingPhaseExpiry p) s =
         .next
           (hands .release
             (runs
               (if s.relief.paced[p] = true then
                 { g with
                   state := .releasing, timer := some r.releaseTime
                   releasesSent := g.releasesSent + 1 }
               else { g with state := .idle, timer := none, releasesSent := g.releasesSent + 1 })
               s))) ∧
     (g.state = .releasing → g.timer = some 0 →
       exec (.releasingPhaseExpiry p) s = .next (pause (runs pausing s))) ∧
     (s.relief.paced[p] = false → handPacedPort p false s = s) ∧
     (s.relief.paced[p] = true → handPacedPort p true s = s) ∧
     (s.relief.paced[p] = false →
       handPacedPort p true s =
         if g.state = .idle then pause (runs pausing (flagged true)) else flagged true) ∧
     (s.relief.paced[p] = true →
       handPacedPort p false s =
         if g.state = .releasing then runs { g with state := .idle, timer := none } (flagged false)
         else flagged false)) ∧
  (∀ (u : PortUnit) (paced : Bool),
     let fenced (cause : FaultCause) : Bool :=
       u.link == .fenced && (u.capture.map Capture.cause) == some cause
     (List.range 8).map (currentConditions u paced).getLsbD =
       [u.link == .barred,
         (!u.lineGood && (u.link == .down || u.link == .probing || u.link == .fenced)) ||
           fenced .lineLost,
         fenced .peerBreak, fenced .silent, fenced .errorBurst, fenced .marginLow, paced, u.quiet]) ∧
  (∀ before after : State,
     let paced (p : Port) : Bool :=
       after.ports[p].link == .up &&
         (List.finRange 40).any fun q =>
           after.relief.congested[q] && after.relief.contributors[q][p]
     let handed : State :=
       (List.finRange 40).foldl (fun acc p => handPacedPort p (paced p) acc) after
     let current (t : State) (p : Port) : BitVec 8 := currentConditions t.ports[p] t.relief.paced[p]
     conclude before after = transmit (settle before after) ∧
     settle before after =
       { handed with
         ports := Vector.ofFn fun p : Port =>
           { handed.ports[p] with
             latched :=
               handed.ports[p].latched ||| (current handed p &&& ~~~ current before p) } } ∧
     pacedRight (settle before after) ∧
       ∀ p : Port,
         let t := settle before after
         t.ports[p].latched =
             after.ports[p].latched |||
               (currentConditions t.ports[p] t.relief.paced[p] &&&
                 ~~~ currentConditions before.ports[p] before.relief.paced[p]) ∧
           t.ports[p].link = after.ports[p].link ∧ t.ports[p].config = after.ports[p].config)

/-- Section 0.7, R92: the passing of n base ticks moves every timer by n microseconds and charges the
microseconds spent in PAUSING to the tenant of the port's binding, or to tenant 0; passing m and then n is
passing m + n. R112: a received break whose first millisecond has passed in DISABLED is not detected any more.
That one command passes n ticks is the model's choice (log 5), and so is that the part's time wraps at 48 bits
(log 27); that the time a break lasts in DISABLED counts toward its first millisecond, and that a detection
of the instant in which that millisecond ends can still be taken, is its reading of R112 (log 14). -/
def Obligations.BaseTicksMoveTheTimers : Prop :=
  (∀ (n : Nat) (s : State), ∃ t, exec (.baseTick n) s = .next t ∧
    t.now = s.now + BitVec.ofNat 48 n ∧
    (∀ p : Port, t.ports[p] =
      { s.ports[p] with
        errorWindow := s.ports[p].errorWindow.map (· - n)
        beaconTimer := s.ports[p].beaconTimer.map (· - n)
        silence := s.ports[p].silence.map (· + n)
        quietTimer := s.ports[p].quietTimer.map (· - n)
        breakTimer := s.ports[p].breakTimer.map (· - n)
        receivedBreak := s.ports[p].receivedBreak.map fun b =>
          { left := b.left - n
            detected := b.detected || (s.ports[p].link == .disabled && decide (b.left < n)) }
        qualification := s.ports[p].qualification.map (· - n)
        peerPause := s.ports[p].peerPause.map (· - n)
        flapWindow := s.ports[p].flapWindow.map (· - n)
        holddown := s.ports[p].holddown.map (· - n)
        steady := s.ports[p].steady.map (· + n) }) ∧
    (∀ p : Port, t.relief.generators[p] =
      { s.relief.generators[p] with timer := s.relief.generators[p].timer.map (· - n) }) ∧
    t.stations = { s.stations with sweepElapsed := s.stations.sweepElapsed + n } ∧
    t.measurement =
      { s.measurement with
        inProgress := s.measurement.inProgress.map fun i => { i with left := i.left - n } } ∧
    (s.billing.state = .stopped → t.billing = s.billing) ∧
    (s.billing.state ≠ .stopped →
      t.billing.tickElapsed = s.billing.tickElapsed + n ∧
      ∀ u : TenantId,
        t.billing.meters[u] =
          s.billing.meters[u].map fun m =>
            { m with
              pacedUs :=
                m.pacedUs +
                  BitVec.ofNat 64
                    (((List.finRange 40).filter fun p =>
                        s.relief.generators[p].state == .pausing &&
                          ((appliedBinding s p).map Binding.tenant).getD 0 == u).map fun p =>
                      min n (s.relief.generators[p].timer.getD 0)).sum }) ∧
    t.directory = s.directory ∧ t.forwarding = s.forwarding ∧ t.buffer = s.buffer ∧
    t.link = { s.link with gap := s.link.gap.map (· + n) } ∧ t.lineOut = s.lineOut ∧
    t.relief.paced = s.relief.paced) ∧
  ∀ (m n : Nat) (s t : State), exec (.baseTick m) s = .next t →
    exec (.baseTick n) t = exec (.baseTick (m + n)) s

/-! ### Port Units: requests (chapters 6 and 7) -/

/-- R56, R118: what stands against an enable of a port with that headroom, checked in this order: a staged
binding, headroom still in use above it, a reserve above 4,096, and a common pool too full. R118, R106,
R107, R113: what an enable does: the record is written, the port is DOWN, its error window starts from 0,
qualification starts if line_good is yes, and a trunk hands its first beacon, of count 0, in the model's own
record of the lines (log 17). -/
def Obligations.EnableIsCheckedAndEntersDown : Prop :=
  (∀ (p : Port) (h : Nat) (s : State),
     let u := headroomInUse s p
     enableCheck s p h =
       if (∃ q : StationPort, p = asPort q ∧ s.directory.staged[q] ≠ none) then some .state
       else if h < u then some .full
       else if 4096 < reserve s + (h - u) then some .value
       else if commonFree s < h - u then some .full
       else none) ∧
  (∀ (p : Port) (config : PortConfig) (s : State),
     enablePort p config s =
       entersDown p
         { s.ports[p] with
           config := config, errorCount := 0
           errorWindow := some (config.errorWindowMs * 1000)
           rollingCount := if 32 ≤ p.val then 0 else s.ports[p].rollingCount } s)

/-- R100: PORT-SET's checks in their order; a PORT-SET that passes replaces the record and, with enabled =
yes, enables the port. That an enable that finds line_good no latches LINE_LOST at its end is the model's
reading of R115 against R116's last sentence (log 31). -/
def Obligations.PortSetReplacesTheRecord : Prop :=
  ∀ (tag : Byte) (body : List Byte) (s : State), accepting s → body.length = 21 →
    (39 < field body 0 1 → exec (.portSet tag body) s = refused 0x20 tag .value s) ∧
    ∀ p : Port, field body 0 1 = p.val →
      let station := decide (p.val < 32)
      let config : PortConfig :=
        { enabled := field body 1 1 == 1, defaultPriority := field body 2 1,
          headroomCells := field body 3 1, errorWindowMs := field body 4 2,
          errorThreshold := field body 6 2, qualifyMs := field body 8 1, breakMs := field body 9 1,
          quietMs := if station then field body 10 2 else s.ports[p].config.quietMs,
          beaconMs := if station then s.ports[p].config.beaconMs else field body 12 2,
          missLimit := if station then s.ports[p].config.missLimit else field body 14 1,
          marginThreshold := field body 15 1, holddownBaseMs := field body 16 2,
          flapLimit := field body 18 1, flapWindowS := field body 19 2 }
      let inRange : Prop :=
        field body 1 1 ≤ 1 ∧ config.defaultPriority ≤ 7 ∧ config.headroomCells ≤ 128 ∧
          1 ≤ config.errorWindowMs ∧ config.errorWindowMs ≤ 1000 ∧ 1 ≤ config.errorThreshold ∧
          1 ≤ config.qualifyMs ∧ config.qualifyMs ≤ 100 ∧ 1 ≤ config.breakMs ∧ config.breakMs ≤ 16 ∧
          (p.val < 32 → 1 ≤ config.quietMs ∧ config.quietMs ≤ 60000) ∧
          (32 ≤ p.val →
            1 ≤ config.beaconMs ∧ config.beaconMs ≤ 1000 ∧ 2 ≤ config.missLimit ∧
              config.missLimit ≤ 15) ∧
          10 ≤ config.holddownBaseMs ∧ config.holddownBaseMs ≤ 1000 ∧ 2 ≤ config.flapLimit ∧
          config.flapLimit ≤ 15 ∧ 1 ≤ config.flapWindowS ∧ config.flapWindowS ≤ 3600
      let answers := performed 0x20 tag (0x00 :: config.bytes)
      let h := hunted s
      (¬ inRange → exec (.portSet tag body) s = refused 0x20 tag .value s) ∧
      (inRange → s.ports[p].link ≠ .disabled →
        exec (.portSet tag body) s = refused 0x20 tag .state s) ∧
      (inRange → s.ports[p].link = .disabled → config.enabled = false →
        exec (.portSet tag body) s = answers (modPort p (fun u => { u with config := config }) h)) ∧
      (inRange → s.ports[p].link = .disabled → config.enabled = true →
        (∀ st : Status, enableCheck s p config.headroomCells = some st →
          exec (.portSet tag body) s = refused 0x20 tag st s) ∧
        (enableCheck s p config.headroomCells = none →
          exec (.portSet tag body) s = answers (settle h (enablePort p config h))))

/-- R101, R102: PORT-ADJUST's checks in their order; one that passes writes the fields it names and no
other, enables or disables the port where it asks for a change, and restarts the silence timer where it
names beacon_ms or miss_limit. R98, Tables 6-1 and 10-4: the numbers of the fields, their ranges and the ports
that have them. That an enable that finds line_good no latches LINE_LOST at its end is the model's reading of
R115 against R116's last sentence (log 31). -/
def Obligations.PortAdjustWritesTheNamedFields : Prop :=
  (let table : List (ConfigField × Nat × Nat) :=
     [(.enabled, 0, 1), (.defaultPriority, 0, 7), (.headroomCells, 0, 128), (.errorWindowMs, 1, 1000),
       (.errorThreshold, 1, 65535), (.qualifyMs, 1, 100), (.breakMs, 1, 16), (.quietMs, 1, 60000),
       (.beaconMs, 1, 1000), (.missLimit, 2, 15), (.marginThreshold, 0, 255),
       (.holddownBaseMs, 10, 1000), (.flapLimit, 2, 15), (.flapWindowS, 1, 3600)]
   adjustPairs [] = some [] ∧
   (∀ (n high low : Byte) (rest : List Byte),
     adjustPairs (n :: high :: low :: rest) =
       match ((none :: table.map (some ∘ Prod.fst))[n.toNat]?).join, adjustPairs rest with
       | some f, some more => some ((f, high.toNat * 256 + low.toNat) :: more)
       | _, _ => none) ∧
   (∀ row ∈ table, ∀ v : Nat, row.1.inRange v = decide (row.2.1 ≤ v ∧ v ≤ row.2.2)) ∧
   (∀ (f : ConfigField) (p : Port),
     f.onPort p =
       (if f = .quietMs then decide (p.val < 32)
         else if f = .beaconMs ∨ f = .missLimit then decide (32 ≤ p.val)
         else true)) ∧
   ∀ (c : PortConfig) (pairs : List (ConfigField × Nat)), (pairs.map Prod.fst).Nodup →
     (∀ fv ∈ pairs, fv.1.inRange fv.2 = true) →
     configFields (c.writeAll pairs) =
       (configFields c).map fun fv => (fv.1, (pairs.lookup fv.1).getD fv.2)) ∧
  ∀ (tag port : Byte) (rest : List Byte) (s : State), accepting s →
    3 ≤ rest.length → rest.length ≤ 42 → rest.length % 3 = 0 →
    (39 < port.toNat ∨ adjustPairs rest = none →
      exec (.portAdjust tag (port :: rest)) s = refused 0x21 tag .value s) ∧
    ∀ (p : Port) (pairs : List (ConfigField × Nat)), port.toNat = p.val →
      adjustPairs rest = some pairs →
      let u := s.ports[p]
      let names (f : ConfigField) : Bool := pairs.any fun fv => fv.1 == f
      let bad : Bool :=
        pairs.any (fun fv => !(fv.1.onPort p && fv.1.inRange fv.2)) ||
          decide ¬ (pairs.map Prod.fst).Nodup
      let config := u.config.writeAll pairs
      let answers := performed 0x21 tag (0x00 :: config.bytes)
      let h := hunted s
      let written := modPort p (fun u => { u with config := config }) h
      (bad = true → exec (.portAdjust tag (port :: rest)) s = refused 0x21 tag .value s) ∧
      (bad = false →
        (u.link ≠ .disabled → names .headroomCells = true →
          exec (.portAdjust tag (port :: rest)) s = refused 0x21 tag .state s) ∧
        (u.link = .disabled → (ConfigField.enabled, 1) ∈ pairs →
          exec (.portAdjust tag (port :: rest)) s =
            match enableCheck s p config.headroomCells with
            | some st => refused 0x21 tag st s
            | none => answers (settle h (enablePort p config h))) ∧
        (u.link ≠ .disabled → names .headroomCells = false → (ConfigField.enabled, 0) ∈ pairs →
          exec (.portAdjust tag (port :: rest)) s =
            answers (settle h (disablePort p written))) ∧
        (u.link ≠ .disabled → names .headroomCells = false → (ConfigField.enabled, 0) ∉ pairs →
          exec (.portAdjust tag (port :: rest)) s =
            answers
              (if names .beaconMs = true ∨ names .missLimit = true then
                modPort p (fun u => { u with silence := u.silence.map fun _ => 0 }) written
              else written)) ∧
        (u.link = .disabled → (ConfigField.enabled, 1) ∉ pairs → u.silence = none →
          exec (.portAdjust tag (port :: rest)) s = answers written))

/-- R118, R119: the PORT-ADJUST whose one pair is enabled = yes enables a DISABLED port, the one with
enabled = no disables a port that is not; where the port is so already the record alone is written (that
these two requests stand for the operations of R118 and R119 is the model's choice, log 6). That an enable
that finds line_good no latches LINE_LOST at its end is its reading of R115 against R116's last sentence (log
31). -/
def Obligations.EnableAndDisableAskForAChange : Prop :=
  ∀ (tag port : Byte) (s : State), accepting s →
    (39 < port.toNat →
      exec (.enable tag port) s = refused 0x21 tag .value s ∧
        exec (.disable tag port) s = refused 0x21 tag .value s) ∧
    ∀ p : Port, port.toNat = p.val →
      let u := s.ports[p]
      let h := hunted s
      let config (on : Bool) : PortConfig := { u.config with enabled := on }
      let written (on : Bool) : State := modPort p (fun u => { u with config := config on }) h
      let answers (on : Bool) : State → Answered := performed 0x21 tag (0x00 :: (config on).bytes)
      exec (.enable tag port) s =
          (if u.link ≠ .disabled then answers true (written true)
            else
              match enableCheck s p u.config.headroomCells with
              | some st => refused 0x21 tag st s
              | none => answers true (settle h (enablePort p (config true) h))) ∧
        exec (.disable tag port) s =
          (if u.link = .disabled then answers false (written false)
            else answers false (settle h (disablePort p (written false))))

/-- R99, R119, R31, R32, R52, R72, R73, R84, R90, R111, R140: what a disable does to its port and to the blocks
that hold state about it: its queues are flushed, a break it sends ends, a trunk leaves its group's UP
membership, one left empty flushing the group's learned entries, its requests are withdrawn; the capture, the
cumulative counters and the latched conditions stay, and no flap is counted. What a disable does to a frame in
reception is the model's reading (log 15), and so is that the held streak becomes 0 where the queues were empty
already (log 34); the record of the lines is its own (log 17). -/
def Obligations.DisableResetsThePort : Prop :=
  ∀ (p : Port) (s : State),
    let u := s.ports[p]
    let t := disablePort p s
    let flushed := (flushPort p s).1
    t.ports[p] =
        { u with
          link := .disabled
          reception := u.reception.map fun r =>
            { r with changed := true, cut := true, silencedAt := none }
          breakTimer := none, errorCount := 0, errorWindow := none, lastBeacon := none
          reference := none, beaconTimer := none, silence := none, quiet := false
          quietTimer := none, qualification := none, peerPause := none, holddown := none
          steady := none, flapCount := 0, flapWindow := none, holddownStep := 0
          waitingControl := none, waitingBeacon := none, presentRequest := none } ∧
      (∀ q : Port, q ≠ p → t.ports[q] = s.ports[q]) ∧
      t.buffer.held[p] = [] ∧ t.buffer.bulk[p] = [] ∧ t.buffer.streak[p] = 0 ∧
      t.buffer = flushed.buffer ∧ t.billing = flushed.billing ∧
      t.lineOut = flushed.lineOut ++ (if u.breakTimer.isSome = true then [.breakEnd p] else []) ∧
      departs s t p [p] ∧ hasPending t p = false ∧
      t.link.notices.fault = s.link.notices.fault

/-- R103, R130: PORT-QUERY reports the record and the observed status as they stand and empties the
latched conditions; PORT-FAULTS reports the capture and the flap history and clears the unread flag;
neither changes anything else. The record, the status, with the health code of R115, and the capture have the
layouts of Tables 10-9, 10-10 and 10-11. -/
def Obligations.PortReportsClearWhatTheyShow : Prop :=
  (∀ c : PortConfig,
     c.bytes =
       bytesOf 1 (if c.enabled = true then 1 else 0) ++ bytesOf 1 c.defaultPriority ++
         bytesOf 1 c.headroomCells ++ bytesOf 2 c.errorWindowMs ++ bytesOf 2 c.errorThreshold ++
         bytesOf 1 c.qualifyMs ++ bytesOf 1 c.breakMs ++ bytesOf 2 c.quietMs ++ bytesOf 2 c.beaconMs ++
         bytesOf 1 c.missLimit ++ bytesOf 1 c.marginThreshold ++ bytesOf 2 c.holddownBaseMs ++
         bytesOf 1 c.flapLimit ++ bytesOf 2 c.flapWindowS) ∧
  (∀ c : Capture,
     let flag (x : Bool) : Byte := if x = true then 1 else 0
     c.bytes =
       bytesOf 1 c.cause.code ++ bytesOf 6 c.timestamp.toNat ++ bytesOf 1 c.stateAtFault.code ++
         bytesOf 2 c.errorCount ++ bytesOf 1 c.flapCount ++ [flag c.barred] ++
         bytesOf 2 c.copiesFlushed ++ bytesOf 2 c.copiesRehomed ++
         [flag c.unread, flag c.overwritten]) ∧
  (∀ (s : State) (p : Port),
     let u := s.ports[p]
     let flag (x : Bool) : Byte := if x = true then 1 else 0
     let conditions := currentConditions u s.relief.paced[p] ||| u.latched
     let health := (((List.range 8).find? fun i => conditions.getLsbD i).map (· + 1)).getD 9
     statusBytes s p =
       bytesOf 1 u.link.code ++ bytesOf 1 health ++ [u.latched, flag u.lineGood] ++
         bytesOf 2 u.errorCount ++ bytesOf 4 u.beaconsSent.toNat ++
         bytesOf 4 u.beaconsReceived.toNat ++
         [match u.lastBeacon with | some n => BitVec.ofNat 8 n.val | none => 0xFF] ++
         bytesOf 4 u.gapCount.toNat ++ bytesOf 4 u.breaksReceived.toNat ++
         [flag u.quiet, flag s.relief.paced[p], flag u.peerPause.isSome] ++
         bytesOf 2 (u.peerPause.getD 0) ++ bytesOf 1 (headroomInUse s p) ++ bytesOf 1 u.flapCount ++
         bytesOf 2 ((u.holddown.getD 0 + 999) / 1000) ++
         bytesOf 4 s.forwarding.filtered[p].toNat ++ bytesOf 4 u.spoof.toNat) ∧
  ∀ (tag port : Byte) (s : State), accepting s →
    (39 < port.toNat →
      exec (.portQuery tag [port]) s = refused 0x22 tag .value s ∧
        exec (.portFaults tag [port]) s = refused 0x24 tag .value s) ∧
    ∀ p : Port, port.toNat = p.val →
      let u := s.ports[p]
      exec (.portQuery tag [port]) s =
          performed 0x22 tag (0x00 :: (u.config.bytes ++ statusBytes s p))
            (modPort p (fun u => { u with latched := 0 }) (hunted s)) ∧
        u.config.bytes.length = 20 ∧ (statusBytes s p).length = 40 ∧
        exec (.portFaults tag [port]) s =
          performed 0x24 tag
            (0x00 ::
              (bytesOf 2 u.captureCount.toNat ++
                (match u.capture with
                  | some c => 1 :: c.bytes
                  | none => 0 :: List.replicate 18 0) ++
                bytesOf 1 u.flapCount ++ bytesOf 2 (((u.flapWindow.getD 0) + 999999) / 1000000) ++
                bytesOf 1 u.holddownStep ++ bytesOf 2 (u.steady.getD 0 / 1000) ++
                bytesOf 2 ((u.holddown.getD 0 + 999) / 1000)))
            (modPort p
              (fun u => { u with capture := u.capture.map fun c => { c with unread := false } })
              (hunted s))

/-- R128, R127: PORT-RELEASE brings a BARRED port, and no other, to DOWN with a clear flap history and a
new error window; the expiry of a FENCED port's hold-down brings it to DOWN, the error window running on.
At the entry a break in progress ends and a trunk hands its next beacon, in the model's own record of the lines
(log 17). -/
def Obligations.ReleaseAndHolddownLeadToDown : Prop :=
  ∀ (tag port : Byte) (p : Port) (s : State),
    let u := s.ports[p]
    let h := hunted s
    (accepting s → 39 < port.toNat →
      exec (.portRelease tag [port]) s = refused 0x23 tag .value s) ∧
    (accepting s → port.toNat = p.val → u.link ≠ .barred →
      exec (.portRelease tag [port]) s = refused 0x23 tag .state s) ∧
    (accepting s → port.toNat = p.val → u.link = .barred →
      exec (.portRelease tag [port]) s =
        performed 0x23 tag [0x00]
          (settle h
            (entersDown p
              { u with
                flapCount := 0, holddownStep := 0, errorCount := 0
                errorWindow := some (u.config.errorWindowMs * 1000) } h))) ∧
    (u.link = .fenced → u.holddown = some 0 →
      exec (.holddownExpiry p) s =
        .next (conclude s (entersDown p { u with holddown := none } s)))

/-! ### Port Units: line events and timers (chapters 6 and 7) -/

/-- R107, R108: a beacon is counted and shown in every state but DISABLED; in PROBING and UP it is
checked against the reference, which it becomes, and in UP it restarts the silence timer; a beacon
interval that has elapsed hands the next beacon with the rolling count and loads the interval again. A
station port discards beacons. R104, R109: a beacon whose reception a fence or disable has cut is discarded
uncounted, unless the one fence that cut it is a SILENT fence of the same instant, which is the model's
reading of R109 (log 15). The record of the lines is the model's own (log 17). -/
def Obligations.BeaconsAreCountedCheckedAndSent : Prop :=
  ∀ (p : Port) (count : Fin 4) (s : State),
    let u := s.ports[p]
    let arrived := arrive p s
    let counted : PortUnit :=
      { u with
        reception := none, beaconsReceived := u.beaconsReceived + 1, lastBeacon := some count }
    let gap := u.reference ≠ none ∧ u.reference ≠ some (count - 1)
    let checked : PortUnit :=
      { counted with
        reference := some count
        silence := if u.link = .up then some 0 else u.silence
        gapCount := if gap then u.gapCount + 1 else u.gapCount }
    let shows (v : PortUnit) : State := modPort p (fun _ => v) s
    (p.val < 32 ∨ u.link = .disabled ∨ beaconLost s p →
      exec (.beaconReceived p count) s = .next (conclude s arrived)) ∧
    (32 ≤ p.val → ¬ beaconLost s p → u.link = .down ∨ u.link = .fenced ∨ u.link = .barred →
      exec (.beaconReceived p count) s = .next (conclude s (shows counted))) ∧
    (32 ≤ p.val → ¬ beaconLost s p → u.link = .probing ∨ u.link = .up → ¬ gap →
      exec (.beaconReceived p count) s = .next (conclude s (shows checked))) ∧
    (32 ≤ p.val → ¬ beaconLost s p → u.link = .probing ∨ u.link = .up → gap →
      exec (.beaconReceived p count) s = .next (conclude s (errorEvent p (shows checked)))) ∧
    (u.beaconTimer = some 0 →
      exec (.beaconTimerExpiry p) s =
        .next
          (if lineBusy s p = true then
            shows
              { u with
                rollingCount := u.rollingCount + 1, beaconsSent := u.beaconsSent + 1
                beaconTimer := some (u.config.beaconMs * 1000)
                waitingBeacon := some u.rollingCount }
          else
            { shows
                { u with
                  rollingCount := u.rollingCount + 1, beaconsSent := u.beaconsSent + 1
                  beaconTimer := some (u.config.beaconMs * 1000) } with
              lineOut := s.lineOut ++ [.beacon p u.rollingCount] }))

/-- R106: a window that has reached its length starts anew with error_count 0; an error event raises the
count, which stops at 65,535, and in UP a count at or above the threshold is an ERROR_BURST fault. R110,
R125, R126: the ends of three timers: the quiet timer's makes the port quiet and raises QUIET, the steady
timer's at 10 seconds returns the hold-down step to 0, the flap window's closes it and clears the flap
count. -/
def Obligations.ErrorQuietSteadyAndFlapTimersEnd : Prop :=
  (∀ (p : Port) (s : State),
     let u := s.ports[p]
     let n := min 65535 (u.errorCount + 1)
     let raised := modPort p (fun u => { u with errorCount := n }) s
     (u.errorWindow = some 0 →
       exec (.errorWindowEnd p) s =
         .next
           (modPort p
             (fun u =>
               { u with errorCount := 0, errorWindow := some (u.config.errorWindowMs * 1000) }) s)) ∧
     (u.link = .up → u.config.errorThreshold ≤ n → errorEvent p s = fence p .errorBurst raised) ∧
     (u.link ≠ .up ∨ n < u.config.errorThreshold → errorEvent p s = raised)) ∧
  (∀ (p : Port) (e : Nat) (s : State),
     let u := s.ports[p]
     (u.quietTimer = some 0 →
       exec (.quietTimerExpiry p) s =
         .next
           (conclude s
             (modNotices
               (fun n => { n with quiet := some ((n.quiet.getD PortSet.empty).set p true) })
               (modPort p (fun u => { u with quiet := true, quietTimer := none }) s)))) ∧
     (u.steady = some e → 10000000 ≤ e →
       exec (.steadyTimerComplete p) s =
         .next (modPort p (fun u => { u with holddownStep := 0, steady := none }) s)) ∧
     (u.flapWindow = some 0 →
       exec (.flapWindowExpiry p) s =
         .next (modPort p (fun u => { u with flapCount := 0, flapWindow := none }) s)))

/-- R123 to R126, R129, R131: what a fence does to its port: the capture, the flap count and window, the
hold-down and its step, the state FENCED or BARRED, the monitors, the break, and the two flags. The copies
moved are the waiting held copies of a trunk for which its group has another member, and the copies flushed
are the others. What a fence does to a frame in reception is the model's reading (log 15), and so is that a fence
from PROBING clears peer_paused (log 35); the record of the lines is its own (log 17). -/
def Obligations.FenceWritesTheCaptureAndHolddown : Prop :=
  ∀ (p : Port) (cause : FaultCause) (s : State),
    let u := s.ports[p]
    let flaps := if u.flapWindow = none then 1 else u.flapCount + 1
    let barring := decide (u.config.flapLimit ≤ flaps)
    let t := fence p cause s
    (∃ flushed moved : Nat,
      flushed + moved = s.buffer.held[p].length + s.buffer.bulk[p].length ∧
      (p.val < 32 → moved = 0) ∧
      (bufferSound s.buffer → moved = s.buffer.held[p].countP (moves s p)) ∧
      t.ports[p] =
        { u with
          link := if barring = true then .barred else .fenced
          reception := u.reception.map fun r =>
            { r with
              changed := true, cut := true
              silencedAt := if r.cut = false ∧ cause = .silent then some s.now else none }
          capture :=
            some
              { cause := cause, timestamp := s.now, stateAtFault := u.link,
                errorCount := u.errorCount, flapCount := flaps, barred := barring,
                copiesFlushed := flushed, copiesRehomed := moved, unread := true,
                overwritten := (u.capture.map Capture.unread).getD false }
          captureCount := u.captureCount + 1
          flapCount := flaps
          flapWindow :=
            if barring = true then none
            else if u.flapWindow = none then some (u.config.flapWindowS * 1000000)
            else u.flapWindow
          holddown :=
            if barring = true then none
            else some (u.config.holddownBaseMs * 2 ^ u.holddownStep * 1000)
          holddownStep := if barring = true then u.holddownStep else min 6 (u.holddownStep + 1)
          errorWindow := if barring = true then none else u.errorWindow
          errorCount := if barring = true then 0 else u.errorCount
          silence := none, quiet := false, quietTimer := none, steady := none, reference := none
          peerPause := none, waitingControl := none, waitingBeacon := none, beaconTimer := none
          breakTimer := some (u.config.breakMs * 1000) }) ∧
    (∀ q : Port, q ≠ p → t.ports[q] = s.ports[q]) ∧
    LineOut.breakBegin p ∈ t.lineOut ∧
    t.link.notices.fault = some ((s.link.notices.fault.getD PortSet.empty).set p true) ∧
    t.link.notices.portChange =
      some ((s.link.notices.portChange.getD PortSet.empty).set p true)

/-- R124, R31, R32, R52, R67, R73, R75, R76, R77, R84, R90, R140: what a fence does to the other blocks: the
port's queues are empty; of a trunk's held copies those that wait go in queue order to the tails of the held
queues of the members selected, the fenced port excluded, where the scheduler then selects; every other copy is
flushed, its record counting one copy less and its tenant's meter its bytes; a copy in transmission is aborted.
A station's learned entries are gone, the held queues that changed are evaluated, the port is in no contributor
set and its generator IDLE, a trunk is out of its group's UP membership, and its pending requests are withdrawn.
The record of the lines is the model's own (log 17). That the held streak of a station port whose queues were empty
already becomes 0, is its reading (log 34). -/
def Obligations.FenceIsTakenByEveryBlock : Prop :=
  ∀ (p : Port) (cause : FaultCause) (s : State),
    let t := fence p cause s
    t.buffer.held[p] = [] ∧ t.buffer.bulk[p] = [] ∧ t.buffer.streak[p] = 0 ∧
      hasPending t p = false ∧
      (lineBusy s p = true → LineOut.abort p ∈ t.lineOut) ∧
      (s.billing.state = .stopped → t.billing = s.billing) ∧
      (∀ q : Port, q ≠ p →
        t.buffer.bulk[q].map CopyEntry.frame = s.buffer.bulk[q].map CopyEntry.frame) ∧
      (∃ (targets : List Port) (b : Buffer),
        (bufferSound s.buffer →
          targets = (s.buffer.held[p].filter (moves s p)).filterMap (rehomeMember s p)) ∧
        departs s t p (p :: targets) ∧
        b.records = t.buffer.records ∧ b.streak = s.buffer.streak.set p 0 ∧
        b.held[p] = [] ∧ b.bulk[p] = [] ∧
        (∀ q : Port, q ≠ p →
          b.bulk[q] = s.buffer.bulk[q] ∧
            (bufferSound s.buffer →
              b.held[q] =
                s.buffer.held[q] ++
                  s.buffer.held[p].filter fun c => moves s p c && rehomeMember s p c == some q)) ∧
        (let v : State :=
          targets.foldl (fun acc q => schedule q acc)
            { s with
              buffer := b
              lineOut := s.lineOut ++ if lineBusy s p = true then [.abort p] else [] }
         t.buffer = v.buffer ∧ t.lineOut = v.lineOut ++ [.breakBegin p])) ∧
      (bufferSound s.buffer →
        (∀ (id : Nat) (r : StoredFrame), frameOf? s.buffer id = some r →
          let lost := (lostCopies s p).countP fun c => c.frame == id
          frameOf? t.buffer id =
            if r.copiesRemaining = lost then none
            else some { r with copiesRemaining := r.copiesRemaining - lost }) ∧
        ∀ (u : TenantId) (m : Meters), s.billing.state ≠ .stopped → s.billing.meters[u] = some m →
          t.billing.meters[u] =
            some
              { m with
                flushedBytes :=
                  m.flushedBytes + BitVec.ofNat 64 (queueBytes s.buffer u (lostCopies s p)) })

/-- R109, R112, R113, R114, R138: the fault that each monitor hands in UP fences the port: the silence timer
at miss_limit times beacon_ms, a received break at its first millisecond, a drop of line-good, which spoils
a measurement of the port in progress. -/
def Obligations.FaultsInUpFenceThePort : Prop :=
  ∀ (p : Port) (e : Nat) (s : State),
    let u := s.ports[p]
    (u.link = .up → u.silence = some e → u.config.missLimit * u.config.beaconMs * 1000 ≤ e →
      exec (.silenceTimerExpiry p) s = .next (conclude s (fence p .silent s))) ∧
    (u.link = .up → u.receivedBreak = some { left := 0, detected := false } →
      exec (.breakDetected p) s =
        .next
          (conclude s
            (fence p .peerBreak
              (modPort p
                (fun u =>
                  { u with
                    breaksReceived := u.breaksReceived + 1
                    receivedBreak := some { left := 0, detected := true } }) s)))) ∧
    (u.link = .up → u.lineGood = true →
      exec (.lineGoodDrop p) s =
        .next
          (conclude s
            (fence p .lineLost
              { modPort p (fun u => { u with lineGood := false }) s with
                measurement :=
                  { s.measurement with
                    inProgress := s.measurement.inProgress.map fun i =>
                      if i.request.port = p then { i with lineBad := true } else i } })))

/-- R113, R120, R121, R135, R138: line-good is followed in every state; a drop in DOWN stops
qualification, one in PROBING returns the port to DOWN and withdraws its request, a rise in DOWN starts
qualification, and a drop during a measurement of the port spoils it; qualification that is complete takes
the port to PROBING, where it files its recovery request at the tail of the recovery group, its host request
withdrawn. The number that names the request is the model's own count of filings, its choice (log 19), and the
record of the lines is its own (log 17). -/
def Obligations.LineGoodDrivesQualification : Prop :=
  ∀ (p : Port) (s : State),
    let u := s.ports[p]
    let low := modPort p (fun u => { u with lineGood := false }) s
    let spoiled : State :=
      { low with
        measurement :=
          { s.measurement with
            inProgress := s.measurement.inProgress.map fun i =>
              if i.request.port = p then { i with lineBad := true } else i } }
    (u.lineGood = true → u.link = .disabled ∨ u.link = .fenced ∨ u.link = .barred →
      exec (.lineGoodDrop p) s = .next (conclude s spoiled)) ∧
    (u.lineGood = true → u.link = .down →
      exec (.lineGoodDrop p) s =
        .next (conclude s (modPort p (fun u => { u with qualification := none }) spoiled))) ∧
    (u.lineGood = true → u.link = .probing →
      exec (.lineGoodDrop p) s =
        .next (conclude s (entersDown p { u with lineGood := false } (withdrawn p spoiled)))) ∧
    (u.lineGood = false →
      exec (.lineGoodRise p) s =
        .next
          (modPort p
            (fun u =>
              { u with
                lineGood := true
                qualification :=
                  if u.link = .down then some (u.config.qualifyMs * 1000) else u.qualification })
            s)) ∧
    (u.link = .down → u.qualification = some 0 →
      let w := withdrawn p s
      let filed : MeasureRequest :=
        { id := s.measurement.filed, port := p, origin := .recovery, filed := .probing }
      exec (.qualificationComplete p) s =
        .next
          (conclude s
            (beginMeasurement
              { w with
                ports :=
                  s.ports.set p
                    { u with
                      link := .probing, reference := none, qualification := none
                      reception := u.reception.map fun r => { r with changed := true }
                      presentRequest := some s.measurement.filed }
                measurement :=
                  { w.measurement with
                    recovery := w.measurement.recovery ++ [filed]
                    filed := s.measurement.filed + 1 }
                link := { w.link with notices := changed w.link.notices p } })))

/-- R111, R112: a received break is measured from its beginning, counted once at its first millisecond
except in DISABLED, and forgotten at its end; one whose detection is over, in DISABLED too, changes nothing
else at its end. The break a fence sends ends at its length. A break that has
lasted its millisecond is detected at its end at the latest, which is the model's choice (log 14), and the
record of the lines is its own (log 17). -/
def Obligations.BreaksAreMeasuredAndCounted : Prop :=
  ∀ (p : Port) (s : State),
    let u := s.ports[p]
    (u.receivedBreak = none →
      exec (.receivedBreakBegin p) s =
        .next
          (modPort p
            (fun u => { u with receivedBreak := some { left := 1000, detected := false } }) s)) ∧
    (u.receivedBreak = some { left := 0, detected := false } → u.link ≠ .up →
      exec (.breakDetected p) s =
        .next
          (conclude s
            (modPort p
              (fun u =>
                { u with
                  breaksReceived :=
                    if u.link = .disabled then u.breaksReceived else u.breaksReceived + 1
                  receivedBreak := some { left := 0, detected := true } }) s))) ∧
    (∀ b : ReceivedBreak, u.receivedBreak = some b → b.detected = true ∨ 0 < b.left →
      exec (.receivedBreakEnd p) s =
        .next (conclude s (modPort p (fun u => { u with receivedBreak := none }) s))) ∧
    (u.receivedBreak = some { left := 0, detected := false } →
      let counted :=
        modPort p
          (fun u =>
            { u with
              breaksReceived :=
                if u.link = .disabled then u.breaksReceived else u.breaksReceived + 1
              receivedBreak := some { left := 0, detected := true } }) s
      exec (.receivedBreakEnd p) s =
        .next
          (conclude s
            (modPort p (fun u => { u with receivedBreak := none })
              (if u.link = .up then fence p .peerBreak counted else counted)))) ∧
    (u.breakTimer = some 0 →
      exec (.breakSendEnd p) s =
        .next
          { modPort p (fun u => { u with breakTimer := none }) s with
            lineOut := s.lineOut ++ [.breakEnd p] })

/-! ### The Measurement Engine (chapter 8) -/

/-- R138, R139, R121, R122: a measurement that has lasted 2 ms yields its margin, held within 0 to 255; a
present recovery result takes a PROBING port to UP or fences it, a stale one or one for a port in another
state does nothing, a host result is raised with whether the state has changed; the engine then takes the
next request. A result raised takes the place of its port's earlier one and leaves the others. That a host
result carries changed no where its port is back in the state of its filing is the model's reading of R139
against R140's last sentence (log 33), and the numbers by which a present result is told from a stale one are
its own (log 19). -/
def Obligations.MeasurementDeliversItsResult : Prop :=
  (∀ (x : MeasureResult) (s : State), resultsAscending s →
     ∃ results : List MeasureResult,
       raiseMeasureDone x s = modNotices (fun n => { n with measureDone := some results }) s ∧
         ∀ y : MeasureResult,
           y ∈ results ↔ y = x ∨ (y.port ≠ x.port ∧ y ∈ s.link.notices.measureDone.getD [])) ∧
  ∀ (raw : Byte) (i : InProgress) (s : State), s.measurement.inProgress = some i → i.left = 0 →
    let p := i.request.port
    let u := s.ports[p]
    let sum : Int := (if i.lineBad = true then 0 else (raw.toNat : Int)) + s.measurement.offset
    let margin : Nat := if sum < 0 then 0 else if 255 < sum then 255 else sum.toNat
    let next (t : State) : State :=
      beginMeasurement { t with measurement := { t.measurement with inProgress := none } }
    let done (t : State) : Prop := exec (.measurementComplete raw) s = .next (conclude s (next t))
    (i.request.origin = .host →
      done
        (raiseMeasureDone
          { port := p, outcome := .done (BitVec.ofNat 8 margin) (u.link != i.request.filed) } s)) ∧
    (i.request.origin = .recovery →
      (u.link ≠ .probing ∨ u.presentRequest ≠ some i.request.id → done s) ∧
      (u.link = .probing → u.presentRequest = some i.request.id →
        (margin < u.config.marginThreshold → done (fence p .marginLow s)) ∧
        (u.config.marginThreshold ≤ margin →
          done (entersUp p s))))

/-- R136, R141: LINE-MEASURE's checks in their order, and the request filed at the tail of the host group
with the number ahead of it; LINE-CALIBRATE's checks, and the offset written. R137: an engine that is
IDLE takes the head of the recovery group, else of the host group, for 2 ms. That it stays IDLE only on an
empty list (R134) is said of every step by EveryStepKeepsTheBounds. The number that names a request is the
model's own count of filings, its choice (log 19). -/
def Obligations.MeasureRequestsAreFiledInOrder : Prop :=
  (∀ (tag x : Byte) (s : State), accepting s →
     let m := s.measurement
     (39 < x.toNat → exec (.lineMeasure tag [x]) s = refused 0x28 tag .value s) ∧
     (∀ p : Port, x.toNat = p.val →
       let r : MeasureRequest :=
         { id := m.filed, port := p, origin := .host, filed := s.ports[p].link }
       let ahead := m.recovery.length + m.host.length + if m.inProgress = none then 0 else 1
       exec (.lineMeasure tag [x]) s =
         if s.ports[p].link = .disabled ∨ s.ports[p].link = .barred then refused 0x28 tag .state s
         else if hasPending s p = true ∨ isMeasured s p = true then refused 0x28 tag .busy s
         else
           performed 0x28 tag [0x01, BitVec.ofNat 8 ahead]
             (beginMeasurement
               { hunted s with
                 measurement := { m with host := m.host ++ [r], filed := m.filed + 1 } })) ∧
     exec (.lineCalibrate tag [x]) s =
       if x.toInt < -31 ∨ 31 < x.toInt then refused 0x29 tag .value s
       else if m.inProgress ≠ none then refused 0x29 tag .busy s
       else
         performed 0x29 tag [0x00, x] { hunted s with measurement := { m with offset := x.toInt } }) ∧
  (∀ s : State,
     let m := s.measurement
     let starts (r : MeasureRequest) : InProgress :=
       { request := r, left := 2000, lineBad := !s.ports[r.port].lineGood }
     (m.inProgress ≠ none → beginMeasurement s = s) ∧
     (m.inProgress = none →
       (∀ (r : MeasureRequest) (rest : List MeasureRequest), m.recovery = r :: rest →
         beginMeasurement s =
           { s with measurement := { m with inProgress := some (starts r), recovery := rest } }) ∧
       (∀ (r : MeasureRequest) (rest : List MeasureRequest), m.recovery = [] → m.host = r :: rest →
         beginMeasurement s =
           { s with measurement := { m with inProgress := some (starts r), host := rest } }) ∧
       (m.recovery = [] → m.host = [] → beginMeasurement s = s)))

/-! ### Billing (chapter 9) -/

/-- R146: BILL-START opens the next epoch with every defined tenant's meters at zero, unless billing runs
or the epoch number is the largest. R147: BILL-HOLD takes RUNNING to HELD and BILL-RESUME takes HELD to
RUNNING, the count, the tick generator and OVERDUE as they stand; in any other state they are refused
STATE. -/
def Obligations.BillStartHoldAndResumeSwitchTheState : Prop :=
  (∀ (tag : Byte) (s : State), accepting s →
     exec (.billStart tag []) s =
       if s.billing.state ≠ .stopped ∨ s.billing.epoch = 0xFFFFFFFF then refused 0x30 tag .state s
       else
         performed 0x30 tag (0x00 :: bytesOf 4 (s.billing.epoch + 1).toNat)
           { hunted s with
             billing :=
               { s.billing with
                 state := .running, overdue := false, epoch := s.billing.epoch + 1, count := 0
                 tickElapsed := 0
                 meters := Vector.ofFn fun u : TenantId =>
                   if s.directory.tenants[u].defined = true then some (Meters.opened (resident s u))
                   else none } }) ∧
  (∀ (tag : Byte) (s : State), accepting s →
     exec (.billHold tag []) s =
         (if s.billing.state = .running then
           performed 0x32 tag [0x00] { hunted s with billing := { s.billing with state := .held } }
         else refused 0x32 tag .state s) ∧
       exec (.billResume tag []) s =
         if s.billing.state = .held then
           performed 0x33 tag [0x00] { hunted s with billing := { s.billing with state := .running } }
         else refused 0x33 tag .state s)

/-- R150, R151, R14: a close appends one record per defined tenant, applies what is staged, and opens the
next epoch, or for a final close stops billing; EPOCH-CLOSED names the epoch closed. That a final close leaves
the count and the tick generator as they stand is the model's choice (log 32). -/
def Obligations.CloseWritesRecordsAndOpensTheNextEpoch : Prop :=
  ∀ (stop : Bool) (s : State),
    let b := s.billing
    let final := stop || b.epoch == 0xFFFFFFFF
    let flags : RecordFlags :=
      { locked := b.lock, late := b.overdue, final := final, removed := false }
    let records : List BillingRecord := (definedTenants s).map fun u =>
      { epoch := b.epoch, tenant := u, flags := flags, boundPorts := boundPorts s u,
        heldSet := s.directory.tenants[u].heldSet, meters := b.meters[u].getD (Meters.opened 0),
        closingResident := BitVec.ofNat 64 (resident s u) }
    closeEpoch stop s =
      { s with
        directory :=
          { s.directory with
            applied := Vector.ofFn fun q : StationPort =>
              match s.directory.staged[q] with
              | some binding => binding
              | none => s.directory.applied[q]
            staged := Vector.replicate 32 none
            tenants := Vector.ofFn fun u : TenantId =>
              { s.directory.tenants[u] with retired := false } }
        billing :=
          { state := if final = true then .stopped else b.state
            overdue := false
            epoch := if final = true then b.epoch else b.epoch + 1
            meters := Vector.ofFn fun u : TenantId =>
              if final = false ∧ s.directory.tenants[u].defined = true then
                some (Meters.opened (resident s u))
              else none
            tickSelect := (b.staged.map Prod.fst).getD b.tickSelect
            length := (b.staged.map Prod.snd).getD b.length
            count := if final = true then b.count else 0
            tickElapsed := if final = true then b.tickElapsed else 0
            staged := none
            queue := b.queue ++ records
            lock := b.lock }
        link :=
          { s.link with
            notices :=
              { s.link.notices with
                epochClosed :=
                  some
                    { epoch := b.epoch, flags := flags,
                      closes :=
                        min 255 ((s.link.notices.epochClosed.map EpochClosed.closes).getD 0 + 1) } } } }

/-- R150, R153: BILL-CLOSE and BILL-STOP are refused in STOPPED, BILL-STOP under the lock, and both
without a free place for every defined tenant; otherwise the epoch is closed and its number reported. -/
def Obligations.BillCloseAndStopCloseTheEpoch : Prop :=
  ∀ (tag : Byte) (s : State), accepting s →
    let room := (definedTenants s).length + s.billing.queue.length ≤ 256
    let number := bytesOf 4 s.billing.epoch.toNat
    s.billing.queue.length ≤ 256 →
    exec (.billClose tag []) s =
        (if s.billing.state = .stopped then refused 0x34 tag .state s
        else if ¬ room then refused 0x34 tag .full s
        else performed 0x34 tag (0x00 :: number) (closeEpoch false (hunted s))) ∧
      exec (.billStop tag []) s =
        if s.billing.state = .stopped then refused 0x31 tag .state s
        else if s.billing.lock = true then refused 0x31 tag .locked s
        else if ¬ room then refused 0x31 tag .full s
        else performed 0x31 tag (0x00 :: number) (closeEpoch true (hunted s))

/-- R149: BILL-SET's checks in their order; under the lock while billing runs the settings are staged,
otherwise they apply at once and, while billing runs, start the count and the tick generator from zero.
R156: BILL-LOCK sets the tariff lock, in every billing state and whether or not it is set, and changes
nothing else; only a restart clears the lock. -/
def Obligations.BillSetAndLockAnswer : Prop :=
  (∀ (tag : Byte) (body : List Byte) (s : State), accepting s → body.length = 3 →
     (3 < field body 0 1 ∨ field body 1 2 = 0 →
       exec (.billSet tag body) s = refused 0x35 tag .value s) ∧
     ∀ sel : TickSelect, field body 0 1 = sel.code → field body 1 2 ≠ 0 →
       let b := s.billing
       let len := field body 1 2
       exec (.billSet tag body) s =
         if b.overdue = true then refused 0x35 tag .state s
         else if b.lock = true ∧ b.state ≠ .stopped then
           performed 0x35 tag [0x02] { hunted s with billing := { b with staged := some (sel, len) } }
         else if b.state = .stopped then
           performed 0x35 tag [0x00]
             { hunted s with billing := { b with tickSelect := sel, length := len } }
         else
           performed 0x35 tag [0x00]
             { hunted s with
               billing :=
                 { b with tickSelect := sel, length := len, count := 0, tickElapsed := 0 } }) ∧
  ((∀ (tag : Byte) (s : State), accepting s →
     exec (.billLock tag []) s =
       performed 0x37 tag [0x00] { hunted s with billing := { s.billing with lock := true } }) ∧
   ∀ (c : Instr) (s t : State), ¬ restarts c s → exec c s = .next t → s.billing.lock = true →
     t.billing.lock = true)

/-- R155: BILL-DRAIN hands over the first records of the queue, up to its maximum of 1 to 9, and closes an
overdue epoch for which there is then room; the remaining count includes what that close appends. A record
has the layout of Table 10-6. -/
def Obligations.BillDrainHandsOverRecords : Prop :=
  (∀ r : BillingRecord,
     let bit (n : Nat) (x : Bool) : Nat := if x = true then 2 ^ n else 0
     let m := r.meters
     r.bytes =
       bytesOf 4 r.epoch.toNat ++ bytesOf 1 r.tenant.val ++
         bytesOf 1
           (bit 0 r.flags.locked + bit 1 r.flags.late + bit 2 r.flags.final + bit 3 r.flags.removed) ++
         bytesOf 1 r.boundPorts ++ [r.heldSet] ++
         [m.openingResident, m.admittedBytes, m.admittedCopies, m.deliveredBytes, m.deliveredCopies,
            m.flushedBytes, m.refusedCongestion, m.refusedPolicy, m.refusedUnavailable,
            m.markedCopies, m.pacedUs, m.cellTicks, r.closingResident].flatMap
           fun v => bytesOf 8 v.toNat) ∧
  ∀ (tag n : Byte) (s : State), accepting s →
    let drained := s.billing.queue.take n.toNat
    let left : State :=
      { hunted s with billing := { s.billing with queue := s.billing.queue.drop n.toNat } }
    let room := (definedTenants s).length + left.billing.queue.length ≤ 256
    let t := if s.billing.overdue = true ∧ room then closeEpoch false left else left
    left.billing.queue.length ≤ 256 →
    exec (.billDrain tag [n]) s =
        if n.toNat = 0 ∨ 9 < n.toNat then refused 0x36 tag .value s
        else
          performed 0x36 tag
            (0x00 ::
              (bytesOf 1 drained.length ++ bytesOf 2 t.billing.queue.length ++
                drained.flatMap BillingRecord.bytes))
            t

/-- R157: BILL-QUERY refuses a number above 63 and an undefined tenant, and reports the state, the epoch,
the timer, the staged settings, the lock, the queue and the meters of a named tenant in the order of Table 10-6;
it changes nothing.
What the three bytes of staged settings hold while none are staged is not stated: any value (log 16). -/
def Obligations.BillQueryReportsTheEpoch : Prop :=
  ∀ (tag : Byte) (s : State), accepting s → s.billing.queue.length ≤ 256 →
    let b := s.billing
    let report (staged meters : List Byte) : List Byte :=
      [0x00, BitVec.ofNat 8 b.state.code, BitVec.ofNat 8 (yesNo b.overdue)] ++ bytesOf 4 b.epoch.toNat ++
        bytesOf 1 b.tickSelect.code ++ bytesOf 2 b.length ++ bytesOf 2 b.count ++
        bytesOf 1 (yesNo b.staged.isSome) ++ staged ++ bytesOf 1 (yesNo b.lock) ++
        bytesOf 2 b.queue.length ++ bytesOf 2 (256 - b.queue.length) ++
        bytesOf 1 (definedTenants s).length ++ meters
    let answers (body meters : List Byte) : Prop :=
      (∀ (sel : TickSelect) (len : Nat), b.staged = some (sel, len) →
        exec (.billQuery tag body) s =
          performed 0x38 tag (report (BitVec.ofNat 8 sel.code :: bytesOf 2 len) meters) (hunted s)) ∧
      (b.staged = none → ∃ x y z : Byte,
        exec (.billQuery tag body) s =
          performed 0x38 tag (report [x, y, z] meters)
            { hunted s with freeCount := s.freeCount + 3 })
    answers [] [0x00] ∧
      ∀ x : Byte,
        (63 < x.toNat → exec (.billQuery tag [x]) s = refused 0x38 tag .value s) ∧
        ∀ u : TenantId, x.toNat = u.val →
          (s.directory.tenants[u].defined = false →
            exec (.billQuery tag [x]) s = refused 0x38 tag .notFound s) ∧
          (s.directory.tenants[u].defined = true → b.state = .stopped → answers [x] [0x00]) ∧
          ∀ m : Meters, s.directory.tenants[u].defined = true → b.state ≠ .stopped →
            b.meters[u] = some m →
              answers [x]
                (0x01 ::
                  ([m.openingResident, m.admittedBytes, m.admittedCopies, m.deliveredBytes,
                      m.deliveredCopies, m.flushedBytes, m.refusedCongestion, m.refusedPolicy,
                      m.refusedUnavailable, m.markedCopies, m.pacedUs, m.cellTicks].flatMap
                    (fun v => bytesOf 8 v.toNat) ++ bytesOf 8 (resident s u)))

/-- R148, R152: a tick that is due samples every defined tenant's cells, and in RUNNING with OVERDUE clear
raises the count; at the length the epoch is closed, or, without room, goes OVERDUE with its notice. The
row of the expiry is the tick that brings the count to the length (log 5), and a detail of BILL-OVERDUE that
still waits is replaced (log 23). -/
def Obligations.EpochTicksSampleCountAndExpire : Prop :=
  ∀ s : State, s.billing.state ≠ .stopped → s.billing.tickSelect.micros ≤ s.billing.tickElapsed →
    let b := s.billing
    let sampled : Billing :=
      { b with
        tickElapsed := b.tickElapsed - b.tickSelect.micros
        meters := Vector.ofFn fun u : TenantId =>
          if s.directory.tenants[u].defined = true then
            b.meters[u].map fun m =>
              { m with
                cellTicks := m.cellTicks + BitVec.ofNat 64 (tenantCommon s u + tenantHeadroom s u) }
          else b.meters[u] }
    let counted : State := { s with billing := { sampled with count := b.count + 1 } }
    (b.state = .held ∨ b.overdue = true →
      exec .epochTick s = .next (transmit { s with billing := sampled })) ∧
    (b.state = .running → b.overdue = false →
      (b.count + 1 < b.length → exec .epochTick s = .next (transmit counted)) ∧
      (b.length ≤ b.count + 1 →
        exec .epochExpiry s = exec .epochTick s ∧
        ((definedTenants s).length ≤ 256 - b.queue.length →
          exec .epochExpiry s = .next (transmit (closeEpoch false counted))) ∧
        (256 - b.queue.length < (definedTenants s).length →
          exec .epochExpiry s =
            .next
              (transmit
                (modNotices
                  (fun n => { n with billOverdue := some (b.epoch, (definedTenants s).length) })
                  { counted with billing := { counted.billing with overdue := true } })))))

/-! ### Invariants that every step keeps -/

/-- R144: for every defined tenant of a running epoch the opening residency and the admitted bytes are the
delivered and flushed bytes and the present residency: every byte is counted once. -/
def Obligations.EveryStepKeepsTheAccounts : Prop :=
  ∀ s t : State, accounted s → step s = .next t → accounted t

/-- R79, R98, R106, R126, R67, R141, R154, R162, R166: every step keeps the settings of relief and of the
ports in their ranges and the numbers of the blocks within their bounds. R18, R19, R27, R58, R59, R148, R149,
Table 1-2: it keeps the Station Table at 4 ways a bucket and 4,096 entries, the sweep period in its range,
the buffer at 8,192 records and 16,384 copy entries, every tenant's quota and station limit in range, and the
epoch's length, with its count while billing runs: of a stopped billing the count is not bounded, which is the
model's choice (log 32). That the station entries stand in strictly rising order of their keys is the model's
choice (log 20). R134: it keeps at most one pending request a port, and the engine IDLE only on an empty list.
R161, R139: it times a gap exactly while a frame is in reception, and keeps the results of MEASURE-DONE in
ascending port order. -/
def Obligations.EveryStepKeepsTheBounds : Prop :=
  (∀ s t : State, reliefSettled s → step s = .next t → reliefSettled t) ∧
    (∀ s t : State, configured s → step s = .next t → configured t) ∧
    (∀ s t : State, bounded s → step s = .next t → bounded t) ∧
    (∀ s t : State, stationsSorted s → step s = .next t → stationsSorted t) ∧
    (∀ s t : State, onePerPort s → step s = .next t → onePerPort t) ∧
    (∀ s t : State, tablesSized s → step s = .next t → tablesSized t) ∧
    (∀ s t : State, engineBusy s → step s = .next t → engineBusy t) ∧
    (∀ s t : State, gapTimed s → step s = .next t → gapTimed t) ∧
    ∀ s t : State, resultsAscending s → step s = .next t → resultsAscending t

/-- R50, R52: every step keeps the UP membership of each trunk group at exactly its members that are UP.
R85: every step keeps a port paced exactly while it is UP and contributes to a CONGESTED queue. -/
def Obligations.EveryStepKeepsMembershipsAndPacing : Prop :=
  (∀ s t : State, membershipUp s → step s = .next t → membershipUp t) ∧
  (∀ s t : State, pacedRight s → step s = .next t → pacedRight t)
end

