-- ==== Sys2Proof/Laws/State.lean ====
section
/-! SUPPORT. One lemma per field for each named update of the state, so that no later proof unfolds a
record update. -/

namespace Sys2Proof.Machine

open Sys2Proof

/-! ### modPort -/

section

variable (p : Port) (f : PortUnit → PortUnit) (s : State)

@[simp] theorem modPort_directory : (modPort p f s).directory = s.directory := rfl
@[simp] theorem modPort_stations : (modPort p f s).stations = s.stations := rfl
@[simp] theorem modPort_forwarding : (modPort p f s).forwarding = s.forwarding := rfl
@[simp] theorem modPort_buffer : (modPort p f s).buffer = s.buffer := rfl
@[simp] theorem modPort_relief : (modPort p f s).relief = s.relief := rfl
@[simp] theorem modPort_ports : (modPort p f s).ports = s.ports.set p (f s.ports[p]) := rfl
@[simp] theorem modPort_measurement : (modPort p f s).measurement = s.measurement := rfl
@[simp] theorem modPort_billing : (modPort p f s).billing = s.billing := rfl
@[simp] theorem modPort_link : (modPort p f s).link = s.link := rfl
@[simp] theorem modPort_now : (modPort p f s).now = s.now := rfl
@[simp] theorem modPort_lineOut : (modPort p f s).lineOut = s.lineOut := rfl
@[simp] theorem modPort_freeCount : (modPort p f s).freeCount = s.freeCount := rfl
@[simp] theorem modPort_pending : (modPort p f s).pending = s.pending := rfl

end

/-! ### modLink -/

section

variable (f : Link → Link) (s : State)

@[simp] theorem modLink_directory : (modLink f s).directory = s.directory := rfl
@[simp] theorem modLink_stations : (modLink f s).stations = s.stations := rfl
@[simp] theorem modLink_forwarding : (modLink f s).forwarding = s.forwarding := rfl
@[simp] theorem modLink_buffer : (modLink f s).buffer = s.buffer := rfl
@[simp] theorem modLink_relief : (modLink f s).relief = s.relief := rfl
@[simp] theorem modLink_ports : (modLink f s).ports = s.ports := rfl
@[simp] theorem modLink_measurement : (modLink f s).measurement = s.measurement := rfl
@[simp] theorem modLink_billing : (modLink f s).billing = s.billing := rfl
@[simp] theorem modLink_link : (modLink f s).link = f s.link := rfl
@[simp] theorem modLink_now : (modLink f s).now = s.now := rfl
@[simp] theorem modLink_lineOut : (modLink f s).lineOut = s.lineOut := rfl
@[simp] theorem modLink_freeCount : (modLink f s).freeCount = s.freeCount := rfl
@[simp] theorem modLink_pending : (modLink f s).pending = s.pending := rfl

end

/-! ### modNotices -/

section

variable (f : Notices → Notices) (s : State)

@[simp] theorem modNotices_directory : (modNotices f s).directory = s.directory := rfl
@[simp] theorem modNotices_stations : (modNotices f s).stations = s.stations := rfl
@[simp] theorem modNotices_forwarding : (modNotices f s).forwarding = s.forwarding := rfl
@[simp] theorem modNotices_buffer : (modNotices f s).buffer = s.buffer := rfl
@[simp] theorem modNotices_relief : (modNotices f s).relief = s.relief := rfl
@[simp] theorem modNotices_ports : (modNotices f s).ports = s.ports := rfl
@[simp] theorem modNotices_measurement : (modNotices f s).measurement = s.measurement := rfl
@[simp] theorem modNotices_billing : (modNotices f s).billing = s.billing := rfl
@[simp] theorem modNotices_now : (modNotices f s).now = s.now := rfl
@[simp] theorem modNotices_lineOut : (modNotices f s).lineOut = s.lineOut := rfl
@[simp] theorem modNotices_freeCount : (modNotices f s).freeCount = s.freeCount := rfl
@[simp] theorem modNotices_pending : (modNotices f s).pending = s.pending := rfl
@[simp] theorem modNotices_link_notices :
    (modNotices f s).link.notices = f s.link.notices := rfl
@[simp] theorem modNotices_link_rx :
    (modNotices f s).link.rx = s.link.rx := rfl
@[simp] theorem modNotices_link_gap :
    (modNotices f s).link.gap = s.link.gap := rfl
@[simp] theorem modNotices_link_places :
    (modNotices f s).link.places = s.link.places := rfl
@[simp] theorem modNotices_link_overflow :
    (modNotices f s).link.overflow = s.link.overflow := rfl
@[simp] theorem modNotices_link_sending :
    (modNotices f s).link.sending = s.link.sending := rfl
@[simp] theorem modNotices_link_noticeCount :
    (modNotices f s).link.noticeCount = s.link.noticeCount := rfl
@[simp] theorem modNotices_link_mask :
    (modNotices f s).link.mask = s.link.mask := rfl
@[simp] theorem modNotices_link_linkErrors :
    (modNotices f s).link.linkErrors = s.link.linkErrors := rfl
@[simp] theorem modNotices_link_restartRecord :
    (modNotices f s).link.restartRecord = s.link.restartRecord := rfl
@[simp] theorem modNotices_link_inRestart :
    (modNotices f s).link.inRestart = s.link.inRestart := rfl
@[simp] theorem modNotices_link_restartHanded :
    (modNotices f s).link.restartHanded = s.link.restartHanded := rfl
@[simp] theorem modNotices_link_restartLineHigh :
    (modNotices f s).link.restartLineHigh = s.link.restartLineHigh := rfl

end

/-! ### modBilling -/

section

variable (f : Billing → Billing) (s : State)

@[simp] theorem modBilling_directory : (modBilling f s).directory = s.directory := rfl
@[simp] theorem modBilling_stations : (modBilling f s).stations = s.stations := rfl
@[simp] theorem modBilling_forwarding : (modBilling f s).forwarding = s.forwarding := rfl
@[simp] theorem modBilling_buffer : (modBilling f s).buffer = s.buffer := rfl
@[simp] theorem modBilling_relief : (modBilling f s).relief = s.relief := rfl
@[simp] theorem modBilling_ports : (modBilling f s).ports = s.ports := rfl
@[simp] theorem modBilling_measurement : (modBilling f s).measurement = s.measurement := rfl
@[simp] theorem modBilling_billing : (modBilling f s).billing = f s.billing := rfl
@[simp] theorem modBilling_link : (modBilling f s).link = s.link := rfl
@[simp] theorem modBilling_now : (modBilling f s).now = s.now := rfl
@[simp] theorem modBilling_lineOut : (modBilling f s).lineOut = s.lineOut := rfl
@[simp] theorem modBilling_freeCount : (modBilling f s).freeCount = s.freeCount := rfl
@[simp] theorem modBilling_pending : (modBilling f s).pending = s.pending := rfl

end

/-! ### modGenerator -/

section

variable (p : Port) (f : Generator → Generator) (s : State)

@[simp] theorem modGenerator_directory : (modGenerator p f s).directory = s.directory := rfl
@[simp] theorem modGenerator_stations : (modGenerator p f s).stations = s.stations := rfl
@[simp] theorem modGenerator_forwarding : (modGenerator p f s).forwarding = s.forwarding := rfl
@[simp] theorem modGenerator_buffer : (modGenerator p f s).buffer = s.buffer := rfl
@[simp] theorem modGenerator_ports : (modGenerator p f s).ports = s.ports := rfl
@[simp] theorem modGenerator_measurement : (modGenerator p f s).measurement = s.measurement := rfl
@[simp] theorem modGenerator_billing : (modGenerator p f s).billing = s.billing := rfl
@[simp] theorem modGenerator_link : (modGenerator p f s).link = s.link := rfl
@[simp] theorem modGenerator_now : (modGenerator p f s).now = s.now := rfl
@[simp] theorem modGenerator_lineOut : (modGenerator p f s).lineOut = s.lineOut := rfl
@[simp] theorem modGenerator_freeCount : (modGenerator p f s).freeCount = s.freeCount := rfl
@[simp] theorem modGenerator_pending : (modGenerator p f s).pending = s.pending := rfl
@[simp] theorem modGenerator_relief_settings :
    (modGenerator p f s).relief.settings = s.relief.settings := rfl
@[simp] theorem modGenerator_relief_congested :
    (modGenerator p f s).relief.congested = s.relief.congested := rfl
@[simp] theorem modGenerator_relief_contributors :
    (modGenerator p f s).relief.contributors = s.relief.contributors := rfl
@[simp] theorem modGenerator_relief_paced :
    (modGenerator p f s).relief.paced = s.relief.paced := rfl
@[simp] theorem modGenerator_relief_generators :
    (modGenerator p f s).relief.generators = updAt s.relief.generators p f := rfl

end

/-! ### modEntries -/

section

variable (f : List StationEntry → List StationEntry) (s : State)

@[simp] theorem modEntries_directory : (modEntries f s).directory = s.directory := rfl
@[simp] theorem modEntries_forwarding : (modEntries f s).forwarding = s.forwarding := rfl
@[simp] theorem modEntries_buffer : (modEntries f s).buffer = s.buffer := rfl
@[simp] theorem modEntries_relief : (modEntries f s).relief = s.relief := rfl
@[simp] theorem modEntries_ports : (modEntries f s).ports = s.ports := rfl
@[simp] theorem modEntries_measurement : (modEntries f s).measurement = s.measurement := rfl
@[simp] theorem modEntries_billing : (modEntries f s).billing = s.billing := rfl
@[simp] theorem modEntries_link : (modEntries f s).link = s.link := rfl
@[simp] theorem modEntries_now : (modEntries f s).now = s.now := rfl
@[simp] theorem modEntries_lineOut : (modEntries f s).lineOut = s.lineOut := rfl
@[simp] theorem modEntries_freeCount : (modEntries f s).freeCount = s.freeCount := rfl
@[simp] theorem modEntries_pending : (modEntries f s).pending = s.pending := rfl
@[simp] theorem modEntries_stations_entries :
    (modEntries f s).stations.entries = f s.stations.entries := rfl
@[simp] theorem modEntries_stations_sweepPeriod :
    (modEntries f s).stations.sweepPeriod = s.stations.sweepPeriod := rfl
@[simp] theorem modEntries_stations_sweepElapsed :
    (modEntries f s).stations.sweepElapsed = s.stations.sweepElapsed := rfl
@[simp] theorem modEntries_stations_refusedLimit :
    (modEntries f s).stations.refusedLimit = s.stations.refusedLimit := rfl
@[simp] theorem modEntries_stations_refusedBucket :
    (modEntries f s).stations.refusedBucket = s.stations.refusedBucket := rfl
@[simp] theorem modEntries_stations_moves :
    (modEntries f s).stations.moves = s.stations.moves := rfl

end

/-! ### emit -/

section

variable (o : LineOut) (s : State)

@[simp] theorem emit_directory : (emit o s).directory = s.directory := rfl
@[simp] theorem emit_stations : (emit o s).stations = s.stations := rfl
@[simp] theorem emit_forwarding : (emit o s).forwarding = s.forwarding := rfl
@[simp] theorem emit_buffer : (emit o s).buffer = s.buffer := rfl
@[simp] theorem emit_relief : (emit o s).relief = s.relief := rfl
@[simp] theorem emit_ports : (emit o s).ports = s.ports := rfl
@[simp] theorem emit_measurement : (emit o s).measurement = s.measurement := rfl
@[simp] theorem emit_billing : (emit o s).billing = s.billing := rfl
@[simp] theorem emit_link : (emit o s).link = s.link := rfl
@[simp] theorem emit_now : (emit o s).now = s.now := rfl
@[simp] theorem emit_lineOut : (emit o s).lineOut = s.lineOut ++ [o] := rfl
@[simp] theorem emit_freeCount : (emit o s).freeCount = s.freeCount := rfl
@[simp] theorem emit_pending : (emit o s).pending = s.pending := rfl

end

/-! ### setStreak -/

section

variable (p : Port) (n : Nat) (s : State)

@[simp] theorem setStreak_directory : (setStreak p n s).directory = s.directory := rfl
@[simp] theorem setStreak_stations : (setStreak p n s).stations = s.stations := rfl
@[simp] theorem setStreak_forwarding : (setStreak p n s).forwarding = s.forwarding := rfl
@[simp] theorem setStreak_relief : (setStreak p n s).relief = s.relief := rfl
@[simp] theorem setStreak_ports : (setStreak p n s).ports = s.ports := rfl
@[simp] theorem setStreak_measurement : (setStreak p n s).measurement = s.measurement := rfl
@[simp] theorem setStreak_billing : (setStreak p n s).billing = s.billing := rfl
@[simp] theorem setStreak_link : (setStreak p n s).link = s.link := rfl
@[simp] theorem setStreak_now : (setStreak p n s).now = s.now := rfl
@[simp] theorem setStreak_lineOut : (setStreak p n s).lineOut = s.lineOut := rfl
@[simp] theorem setStreak_freeCount : (setStreak p n s).freeCount = s.freeCount := rfl
@[simp] theorem setStreak_pending : (setStreak p n s).pending = s.pending := rfl
@[simp] theorem setStreak_buffer_records :
    (setStreak p n s).buffer.records = s.buffer.records := rfl
@[simp] theorem setStreak_buffer_held :
    (setStreak p n s).buffer.held = s.buffer.held := rfl
@[simp] theorem setStreak_buffer_bulk :
    (setStreak p n s).buffer.bulk = s.buffer.bulk := rfl
@[simp] theorem setStreak_buffer_streak :
    (setStreak p n s).buffer.streak = s.buffer.streak.set p n := rfl

end

/-! ### modQueue -/

section

variable (c : TrafficClass) (p : Port) (f : List CopyEntry → List CopyEntry) (s : State)

@[simp] theorem modQueue_directory : (modQueue c p f s).directory = s.directory := by cases c <;> rfl
@[simp] theorem modQueue_stations : (modQueue c p f s).stations = s.stations := by cases c <;> rfl
@[simp] theorem modQueue_forwarding : (modQueue c p f s).forwarding = s.forwarding := by cases c <;> rfl
@[simp] theorem modQueue_relief : (modQueue c p f s).relief = s.relief := by cases c <;> rfl
@[simp] theorem modQueue_ports : (modQueue c p f s).ports = s.ports := by cases c <;> rfl
@[simp] theorem modQueue_measurement : (modQueue c p f s).measurement = s.measurement := by cases c <;> rfl
@[simp] theorem modQueue_billing : (modQueue c p f s).billing = s.billing := by cases c <;> rfl
@[simp] theorem modQueue_link : (modQueue c p f s).link = s.link := by cases c <;> rfl
@[simp] theorem modQueue_now : (modQueue c p f s).now = s.now := by cases c <;> rfl
@[simp] theorem modQueue_lineOut : (modQueue c p f s).lineOut = s.lineOut := by cases c <;> rfl
@[simp] theorem modQueue_freeCount : (modQueue c p f s).freeCount = s.freeCount := by cases c <;> rfl
@[simp] theorem modQueue_pending : (modQueue c p f s).pending = s.pending := by cases c <;> rfl
@[simp] theorem modQueue_buffer_records :
    (modQueue c p f s).buffer.records = s.buffer.records := by cases c <;> rfl
@[simp] theorem modQueue_buffer_streak :
    (modQueue c p f s).buffer.streak = s.buffer.streak := by cases c <;> rfl

end

/-! ### modGroup -/

section

variable (g : Group) (f : TrunkGroup → TrunkGroup) (s : State)

@[simp] theorem modGroup_directory : (modGroup g f s).directory = s.directory := by cases g <;> rfl
@[simp] theorem modGroup_stations : (modGroup g f s).stations = s.stations := by cases g <;> rfl
@[simp] theorem modGroup_buffer : (modGroup g f s).buffer = s.buffer := by cases g <;> rfl
@[simp] theorem modGroup_relief : (modGroup g f s).relief = s.relief := by cases g <;> rfl
@[simp] theorem modGroup_ports : (modGroup g f s).ports = s.ports := by cases g <;> rfl
@[simp] theorem modGroup_measurement : (modGroup g f s).measurement = s.measurement := by cases g <;> rfl
@[simp] theorem modGroup_billing : (modGroup g f s).billing = s.billing := by cases g <;> rfl
@[simp] theorem modGroup_link : (modGroup g f s).link = s.link := by cases g <;> rfl
@[simp] theorem modGroup_now : (modGroup g f s).now = s.now := by cases g <;> rfl
@[simp] theorem modGroup_lineOut : (modGroup g f s).lineOut = s.lineOut := by cases g <;> rfl
@[simp] theorem modGroup_freeCount : (modGroup g f s).freeCount = s.freeCount := by cases g <;> rfl
@[simp] theorem modGroup_pending : (modGroup g f s).pending = s.pending := by cases g <;> rfl
@[simp] theorem modGroup_forwarding_filtered :
    (modGroup g f s).forwarding.filtered = s.forwarding.filtered := by cases g <;> rfl
@[simp] theorem modGroup_forwarding_refusedPolicy :
    (modGroup g f s).forwarding.refusedPolicy = s.forwarding.refusedPolicy := by cases g <;> rfl
@[simp] theorem modGroup_forwarding_refusedUnavailable :
    (modGroup g f s).forwarding.refusedUnavailable = s.forwarding.refusedUnavailable := by cases g <;> rfl

end

/-- A refusal changes nothing. -/
@[simp] theorem refuse_fst (st : Status) (s : State) : (refuse st s).1 = s := rfl

/-- A refusal's answer is its status alone. -/
@[simp] theorem refuse_snd (st : Status) (s : State) : (refuse st s).2 = ⟨st, []⟩ := rfl

/-- The unit of the port a `modPort` names. -/
@[simp] theorem modPort_self (p : Port) (f : PortUnit → PortUnit) (s : State) :
    (modPort p f s).ports[p] = f s.ports[p] := by
  simp [modPort]

/-- The units of the other ports. -/
theorem modPort_other {p q : Port} (h : q ≠ p) (f : PortUnit → PortUnit) (s : State) :
    (modPort p f s).ports[q] = s.ports[q] := by
  simp only [modPort]
  exact Vector.getElem_set_ne _ _ (fun e => h (Fin.ext e.symm))

/-- Two updates of one port in a row. -/
@[simp] theorem modPort_modPort (p : Port) (f g : PortUnit → PortUnit) (s : State) :
    modPort p g (modPort p f s) = modPort p (fun u => g (f u)) s := by
  simp [modPort]

/-- An update that keeps the unit keeps the state. -/
theorem modPort_id {p : Port} {f : PortUnit → PortUnit} {s : State} (h : f s.ports[p] = s.ports[p]) :
    modPort p f s = s := by
  simp only [modPort, h]
  congr 1
  exact Vector.set_getElem_self _

/-- The element that an `updAt` replaces. -/
@[simp] theorem updAt_self {α : Type} {n : Nat} (v : Vector α n) (i : Fin n) (f : α → α) :
    (updAt v i f)[i] = f v[i] := by
  simp [updAt]

/-- The other elements. -/
theorem updAt_other {α : Type} {n : Nat} {i j : Fin n} (h : j ≠ i) (v : Vector α n) (f : α → α) :
    (updAt v i f)[j] = v[j] := by
  simp only [updAt]
  exact Vector.getElem_set_ne _ _ (fun e => h (Fin.ext e.symm))

end Sys2Proof.Machine
end

