-- ==== Sys2Proof/Laws/Frames.lean ====
section
/-! SUPPORT. What each shared operation and each owner leaves unchanged: for each one lemma that names the
blocks, and within the link controller the parts, that it does not touch. -/

namespace Sys2Proof.Machine

open Sys2Proof

/-- A fold of an operation that keeps a figure keeps it. -/
theorem foldl_keeps {α β : Type} {f : State → α → State} {g : State → β}
    (h : ∀ s a, g (f s a) = g s) (l : List α) (s : State) : g (l.foldl f s) = g s := by
  induction l generalizing s with
  | nil => rfl
  | cons a l ih => rw [List.foldl_cons, ih, h]

@[simp] theorem raiseFault_keeps (p : Port) (s : State) :
    (raiseFault p s).directory = s.directory ∧ (raiseFault p s).stations = s.stations ∧
    (raiseFault p s).forwarding = s.forwarding ∧ (raiseFault p s).buffer = s.buffer ∧
    (raiseFault p s).relief = s.relief ∧ (raiseFault p s).ports = s.ports ∧
    (raiseFault p s).measurement = s.measurement ∧ (raiseFault p s).billing = s.billing ∧
    (raiseFault p s).now = s.now ∧ (raiseFault p s).lineOut = s.lineOut ∧
    (raiseFault p s).freeCount = s.freeCount ∧ (raiseFault p s).pending = s.pending ∧
    (raiseFault p s).link.rx = s.link.rx ∧ (raiseFault p s).link.gap = s.link.gap ∧
    (raiseFault p s).link.places = s.link.places ∧ (raiseFault p s).link.overflow = s.link.overflow ∧
    (raiseFault p s).link.sending = s.link.sending ∧
    (raiseFault p s).link.noticeCount = s.link.noticeCount ∧ (raiseFault p s).link.mask = s.link.mask ∧
    (raiseFault p s).link.linkErrors = s.link.linkErrors ∧
    (raiseFault p s).link.restartRecord = s.link.restartRecord ∧
    (raiseFault p s).link.inRestart = s.link.inRestart ∧
    (raiseFault p s).link.restartHanded = s.link.restartHanded ∧
    (raiseFault p s).link.restartLineHigh = s.link.restartLineHigh := by
  simp only [raiseFault]
  first | rfl | simp

@[simp] theorem raisePortChange_keeps (p : Port) (s : State) :
    (raisePortChange p s).directory = s.directory ∧ (raisePortChange p s).stations = s.stations ∧
    (raisePortChange p s).forwarding = s.forwarding ∧ (raisePortChange p s).buffer = s.buffer ∧
    (raisePortChange p s).relief = s.relief ∧ (raisePortChange p s).ports = s.ports ∧
    (raisePortChange p s).measurement = s.measurement ∧ (raisePortChange p s).billing = s.billing ∧
    (raisePortChange p s).now = s.now ∧ (raisePortChange p s).lineOut = s.lineOut ∧
    (raisePortChange p s).freeCount = s.freeCount ∧ (raisePortChange p s).pending = s.pending ∧
    (raisePortChange p s).link.rx = s.link.rx ∧ (raisePortChange p s).link.gap = s.link.gap ∧
    (raisePortChange p s).link.places = s.link.places ∧
    (raisePortChange p s).link.overflow = s.link.overflow ∧
    (raisePortChange p s).link.sending = s.link.sending ∧
    (raisePortChange p s).link.noticeCount = s.link.noticeCount ∧
    (raisePortChange p s).link.mask = s.link.mask ∧
    (raisePortChange p s).link.linkErrors = s.link.linkErrors ∧
    (raisePortChange p s).link.restartRecord = s.link.restartRecord ∧
    (raisePortChange p s).link.inRestart = s.link.inRestart ∧
    (raisePortChange p s).link.restartHanded = s.link.restartHanded ∧
    (raisePortChange p s).link.restartLineHigh = s.link.restartLineHigh := by
  simp only [raisePortChange]
  first | rfl | simp

@[simp] theorem raiseQuiet_keeps (p : Port) (s : State) :
    (raiseQuiet p s).directory = s.directory ∧ (raiseQuiet p s).stations = s.stations ∧
    (raiseQuiet p s).forwarding = s.forwarding ∧ (raiseQuiet p s).buffer = s.buffer ∧
    (raiseQuiet p s).relief = s.relief ∧ (raiseQuiet p s).ports = s.ports ∧
    (raiseQuiet p s).measurement = s.measurement ∧ (raiseQuiet p s).billing = s.billing ∧
    (raiseQuiet p s).now = s.now ∧ (raiseQuiet p s).lineOut = s.lineOut ∧
    (raiseQuiet p s).freeCount = s.freeCount ∧ (raiseQuiet p s).pending = s.pending ∧
    (raiseQuiet p s).link.rx = s.link.rx ∧ (raiseQuiet p s).link.gap = s.link.gap ∧
    (raiseQuiet p s).link.places = s.link.places ∧ (raiseQuiet p s).link.overflow = s.link.overflow ∧
    (raiseQuiet p s).link.sending = s.link.sending ∧
    (raiseQuiet p s).link.noticeCount = s.link.noticeCount ∧ (raiseQuiet p s).link.mask = s.link.mask ∧
    (raiseQuiet p s).link.linkErrors = s.link.linkErrors ∧
    (raiseQuiet p s).link.restartRecord = s.link.restartRecord ∧
    (raiseQuiet p s).link.inRestart = s.link.inRestart ∧
    (raiseQuiet p s).link.restartHanded = s.link.restartHanded ∧
    (raiseQuiet p s).link.restartLineHigh = s.link.restartLineHigh := by
  simp only [raiseQuiet]
  first | rfl | simp

@[simp] theorem raiseRelief_keeps (p : Port) (s : State) :
    (raiseRelief p s).directory = s.directory ∧ (raiseRelief p s).stations = s.stations ∧
    (raiseRelief p s).forwarding = s.forwarding ∧ (raiseRelief p s).buffer = s.buffer ∧
    (raiseRelief p s).relief = s.relief ∧ (raiseRelief p s).ports = s.ports ∧
    (raiseRelief p s).measurement = s.measurement ∧ (raiseRelief p s).billing = s.billing ∧
    (raiseRelief p s).now = s.now ∧ (raiseRelief p s).lineOut = s.lineOut ∧
    (raiseRelief p s).freeCount = s.freeCount ∧ (raiseRelief p s).pending = s.pending ∧
    (raiseRelief p s).link.rx = s.link.rx ∧ (raiseRelief p s).link.gap = s.link.gap ∧
    (raiseRelief p s).link.places = s.link.places ∧ (raiseRelief p s).link.overflow = s.link.overflow ∧
    (raiseRelief p s).link.sending = s.link.sending ∧
    (raiseRelief p s).link.noticeCount = s.link.noticeCount ∧ (raiseRelief p s).link.mask = s.link.mask ∧
    (raiseRelief p s).link.linkErrors = s.link.linkErrors ∧
    (raiseRelief p s).link.restartRecord = s.link.restartRecord ∧
    (raiseRelief p s).link.inRestart = s.link.inRestart ∧
    (raiseRelief p s).link.restartHanded = s.link.restartHanded ∧
    (raiseRelief p s).link.restartLineHigh = s.link.restartLineHigh := by
  simp only [raiseRelief]
  first | rfl | simp

@[simp] theorem raiseBillOverdue_keeps (e : BitVec 32) (n : Nat) (s : State) :
    (raiseBillOverdue e n s).directory = s.directory ∧ (raiseBillOverdue e n s).stations = s.stations ∧
    (raiseBillOverdue e n s).forwarding = s.forwarding ∧ (raiseBillOverdue e n s).buffer = s.buffer ∧
    (raiseBillOverdue e n s).relief = s.relief ∧ (raiseBillOverdue e n s).ports = s.ports ∧
    (raiseBillOverdue e n s).measurement = s.measurement ∧ (raiseBillOverdue e n s).billing = s.billing ∧
    (raiseBillOverdue e n s).now = s.now ∧ (raiseBillOverdue e n s).lineOut = s.lineOut ∧
    (raiseBillOverdue e n s).freeCount = s.freeCount ∧ (raiseBillOverdue e n s).pending = s.pending ∧
    (raiseBillOverdue e n s).link.rx = s.link.rx ∧ (raiseBillOverdue e n s).link.gap = s.link.gap ∧
    (raiseBillOverdue e n s).link.places = s.link.places ∧
    (raiseBillOverdue e n s).link.overflow = s.link.overflow ∧
    (raiseBillOverdue e n s).link.sending = s.link.sending ∧
    (raiseBillOverdue e n s).link.noticeCount = s.link.noticeCount ∧
    (raiseBillOverdue e n s).link.mask = s.link.mask ∧
    (raiseBillOverdue e n s).link.linkErrors = s.link.linkErrors ∧
    (raiseBillOverdue e n s).link.restartRecord = s.link.restartRecord ∧
    (raiseBillOverdue e n s).link.inRestart = s.link.inRestart ∧
    (raiseBillOverdue e n s).link.restartHanded = s.link.restartHanded ∧
    (raiseBillOverdue e n s).link.restartLineHigh = s.link.restartLineHigh := by
  simp only [raiseBillOverdue]
  first | rfl | simp

@[simp] theorem raiseEpochClosed_keeps (e : BitVec 32) (f : RecordFlags) (s : State) :
    (raiseEpochClosed e f s).directory = s.directory ∧ (raiseEpochClosed e f s).stations = s.stations ∧
    (raiseEpochClosed e f s).forwarding = s.forwarding ∧ (raiseEpochClosed e f s).buffer = s.buffer ∧
    (raiseEpochClosed e f s).relief = s.relief ∧ (raiseEpochClosed e f s).ports = s.ports ∧
    (raiseEpochClosed e f s).measurement = s.measurement ∧ (raiseEpochClosed e f s).billing = s.billing ∧
    (raiseEpochClosed e f s).now = s.now ∧ (raiseEpochClosed e f s).lineOut = s.lineOut ∧
    (raiseEpochClosed e f s).freeCount = s.freeCount ∧ (raiseEpochClosed e f s).pending = s.pending ∧
    (raiseEpochClosed e f s).link.rx = s.link.rx ∧ (raiseEpochClosed e f s).link.gap = s.link.gap ∧
    (raiseEpochClosed e f s).link.places = s.link.places ∧
    (raiseEpochClosed e f s).link.overflow = s.link.overflow ∧
    (raiseEpochClosed e f s).link.sending = s.link.sending ∧
    (raiseEpochClosed e f s).link.noticeCount = s.link.noticeCount ∧
    (raiseEpochClosed e f s).link.mask = s.link.mask ∧
    (raiseEpochClosed e f s).link.linkErrors = s.link.linkErrors ∧
    (raiseEpochClosed e f s).link.restartRecord = s.link.restartRecord ∧
    (raiseEpochClosed e f s).link.inRestart = s.link.inRestart ∧
    (raiseEpochClosed e f s).link.restartHanded = s.link.restartHanded ∧
    (raiseEpochClosed e f s).link.restartLineHigh = s.link.restartLineHigh := by
  simp only [raiseEpochClosed]
  first | rfl | simp

@[simp] theorem raiseMeasureDone_keeps (r : MeasureResult) (s : State) :
    (raiseMeasureDone r s).directory = s.directory ∧ (raiseMeasureDone r s).stations = s.stations ∧
    (raiseMeasureDone r s).forwarding = s.forwarding ∧ (raiseMeasureDone r s).buffer = s.buffer ∧
    (raiseMeasureDone r s).relief = s.relief ∧ (raiseMeasureDone r s).ports = s.ports ∧
    (raiseMeasureDone r s).measurement = s.measurement ∧ (raiseMeasureDone r s).billing = s.billing ∧
    (raiseMeasureDone r s).now = s.now ∧ (raiseMeasureDone r s).lineOut = s.lineOut ∧
    (raiseMeasureDone r s).freeCount = s.freeCount ∧ (raiseMeasureDone r s).pending = s.pending ∧
    (raiseMeasureDone r s).link.rx = s.link.rx ∧ (raiseMeasureDone r s).link.gap = s.link.gap ∧
    (raiseMeasureDone r s).link.places = s.link.places ∧
    (raiseMeasureDone r s).link.overflow = s.link.overflow ∧
    (raiseMeasureDone r s).link.sending = s.link.sending ∧
    (raiseMeasureDone r s).link.noticeCount = s.link.noticeCount ∧
    (raiseMeasureDone r s).link.mask = s.link.mask ∧
    (raiseMeasureDone r s).link.linkErrors = s.link.linkErrors ∧
    (raiseMeasureDone r s).link.restartRecord = s.link.restartRecord ∧
    (raiseMeasureDone r s).link.inRestart = s.link.inRestart ∧
    (raiseMeasureDone r s).link.restartHanded = s.link.restartHanded ∧
    (raiseMeasureDone r s).link.restartLineHigh = s.link.restartLineHigh := by
  simp only [raiseMeasureDone]
  first | rfl | simp

@[simp] theorem raiseStationMove_keeps (g : SegmentId) (a : StationAddr) (s : State) :
    (raiseStationMove g a s).directory = s.directory ∧ (raiseStationMove g a s).stations = s.stations ∧
    (raiseStationMove g a s).forwarding = s.forwarding ∧ (raiseStationMove g a s).buffer = s.buffer ∧
    (raiseStationMove g a s).relief = s.relief ∧ (raiseStationMove g a s).ports = s.ports ∧
    (raiseStationMove g a s).measurement = s.measurement ∧ (raiseStationMove g a s).billing = s.billing ∧
    (raiseStationMove g a s).now = s.now ∧ (raiseStationMove g a s).lineOut = s.lineOut ∧
    (raiseStationMove g a s).freeCount = s.freeCount ∧ (raiseStationMove g a s).pending = s.pending ∧
    (raiseStationMove g a s).link.rx = s.link.rx ∧ (raiseStationMove g a s).link.gap = s.link.gap ∧
    (raiseStationMove g a s).link.places = s.link.places ∧
    (raiseStationMove g a s).link.overflow = s.link.overflow ∧
    (raiseStationMove g a s).link.sending = s.link.sending ∧
    (raiseStationMove g a s).link.noticeCount = s.link.noticeCount ∧
    (raiseStationMove g a s).link.mask = s.link.mask ∧
    (raiseStationMove g a s).link.linkErrors = s.link.linkErrors ∧
    (raiseStationMove g a s).link.restartRecord = s.link.restartRecord ∧
    (raiseStationMove g a s).link.inRestart = s.link.inRestart ∧
    (raiseStationMove g a s).link.restartHanded = s.link.restartHanded ∧
    (raiseStationMove g a s).link.restartLineHigh = s.link.restartLineHigh := by
  simp only [raiseStationMove]
  first | rfl | simp

@[simp] theorem raiseLearnFullLimit_keeps (t : TenantId) (s : State) :
    (raiseLearnFullLimit t s).directory = s.directory ∧ (raiseLearnFullLimit t s).stations = s.stations ∧
    (raiseLearnFullLimit t s).forwarding = s.forwarding ∧ (raiseLearnFullLimit t s).buffer = s.buffer ∧
    (raiseLearnFullLimit t s).relief = s.relief ∧ (raiseLearnFullLimit t s).ports = s.ports ∧
    (raiseLearnFullLimit t s).measurement = s.measurement ∧ (raiseLearnFullLimit t s).billing = s.billing ∧
    (raiseLearnFullLimit t s).now = s.now ∧ (raiseLearnFullLimit t s).lineOut = s.lineOut ∧
    (raiseLearnFullLimit t s).freeCount = s.freeCount ∧ (raiseLearnFullLimit t s).pending = s.pending ∧
    (raiseLearnFullLimit t s).link.rx = s.link.rx ∧ (raiseLearnFullLimit t s).link.gap = s.link.gap ∧
    (raiseLearnFullLimit t s).link.places = s.link.places ∧
    (raiseLearnFullLimit t s).link.overflow = s.link.overflow ∧
    (raiseLearnFullLimit t s).link.sending = s.link.sending ∧
    (raiseLearnFullLimit t s).link.noticeCount = s.link.noticeCount ∧
    (raiseLearnFullLimit t s).link.mask = s.link.mask ∧
    (raiseLearnFullLimit t s).link.linkErrors = s.link.linkErrors ∧
    (raiseLearnFullLimit t s).link.restartRecord = s.link.restartRecord ∧
    (raiseLearnFullLimit t s).link.inRestart = s.link.inRestart ∧
    (raiseLearnFullLimit t s).link.restartHanded = s.link.restartHanded ∧
    (raiseLearnFullLimit t s).link.restartLineHigh = s.link.restartLineHigh := by
  simp only [raiseLearnFullLimit]
  first | rfl | simp

@[simp] theorem raiseLearnFullBucket_keeps (t : TenantId) (s : State) :
    (raiseLearnFullBucket t s).directory = s.directory ∧ (raiseLearnFullBucket t s).stations = s.stations ∧
    (raiseLearnFullBucket t s).forwarding = s.forwarding ∧ (raiseLearnFullBucket t s).buffer = s.buffer ∧
    (raiseLearnFullBucket t s).relief = s.relief ∧ (raiseLearnFullBucket t s).ports = s.ports ∧
    (raiseLearnFullBucket t s).measurement = s.measurement ∧
    (raiseLearnFullBucket t s).billing = s.billing ∧ (raiseLearnFullBucket t s).now = s.now ∧
    (raiseLearnFullBucket t s).lineOut = s.lineOut ∧ (raiseLearnFullBucket t s).freeCount = s.freeCount ∧
    (raiseLearnFullBucket t s).pending = s.pending ∧ (raiseLearnFullBucket t s).link.rx = s.link.rx ∧
    (raiseLearnFullBucket t s).link.gap = s.link.gap ∧
    (raiseLearnFullBucket t s).link.places = s.link.places ∧
    (raiseLearnFullBucket t s).link.overflow = s.link.overflow ∧
    (raiseLearnFullBucket t s).link.sending = s.link.sending ∧
    (raiseLearnFullBucket t s).link.noticeCount = s.link.noticeCount ∧
    (raiseLearnFullBucket t s).link.mask = s.link.mask ∧
    (raiseLearnFullBucket t s).link.linkErrors = s.link.linkErrors ∧
    (raiseLearnFullBucket t s).link.restartRecord = s.link.restartRecord ∧
    (raiseLearnFullBucket t s).link.inRestart = s.link.inRestart ∧
    (raiseLearnFullBucket t s).link.restartHanded = s.link.restartHanded ∧
    (raiseLearnFullBucket t s).link.restartLineHigh = s.link.restartLineHigh := by
  simp only [raiseLearnFullBucket]
  first | rfl | simp

@[simp] theorem latchArisen_keeps (b : State) (s : State) :
    (latchArisen b s).directory = s.directory ∧ (latchArisen b s).stations = s.stations ∧
    (latchArisen b s).forwarding = s.forwarding ∧ (latchArisen b s).buffer = s.buffer ∧
    (latchArisen b s).relief = s.relief ∧ (latchArisen b s).measurement = s.measurement ∧
    (latchArisen b s).billing = s.billing ∧ (latchArisen b s).now = s.now ∧
    (latchArisen b s).lineOut = s.lineOut ∧ (latchArisen b s).freeCount = s.freeCount ∧
    (latchArisen b s).pending = s.pending ∧ (latchArisen b s).link = s.link := by
  simp only [latchArisen]
  first | rfl | simp

@[simp] theorem report_keeps (t : TenantId) (f : Meters → Meters) (s : State) :
    (report t f s).directory = s.directory ∧ (report t f s).stations = s.stations ∧
    (report t f s).forwarding = s.forwarding ∧ (report t f s).buffer = s.buffer ∧
    (report t f s).relief = s.relief ∧ (report t f s).ports = s.ports ∧
    (report t f s).measurement = s.measurement ∧ (report t f s).now = s.now ∧
    (report t f s).lineOut = s.lineOut ∧ (report t f s).freeCount = s.freeCount ∧
    (report t f s).pending = s.pending ∧ (report t f s).link = s.link := by
  simp only [report]
  repeat' split
  all_goals first | rfl | simp

@[simp] theorem reportDelivered_keeps (t : TenantId) (n : Nat) (s : State) :
    (reportDelivered t n s).directory = s.directory ∧ (reportDelivered t n s).stations = s.stations ∧
    (reportDelivered t n s).forwarding = s.forwarding ∧ (reportDelivered t n s).buffer = s.buffer ∧
    (reportDelivered t n s).relief = s.relief ∧ (reportDelivered t n s).ports = s.ports ∧
    (reportDelivered t n s).measurement = s.measurement ∧ (reportDelivered t n s).now = s.now ∧
    (reportDelivered t n s).lineOut = s.lineOut ∧ (reportDelivered t n s).freeCount = s.freeCount ∧
    (reportDelivered t n s).pending = s.pending ∧ (reportDelivered t n s).link = s.link := by
  simp only [reportDelivered]
  first | rfl | simp

@[simp] theorem reportFlushed_keeps (t : TenantId) (n : Nat) (s : State) :
    (reportFlushed t n s).directory = s.directory ∧ (reportFlushed t n s).stations = s.stations ∧
    (reportFlushed t n s).forwarding = s.forwarding ∧ (reportFlushed t n s).buffer = s.buffer ∧
    (reportFlushed t n s).relief = s.relief ∧ (reportFlushed t n s).ports = s.ports ∧
    (reportFlushed t n s).measurement = s.measurement ∧ (reportFlushed t n s).now = s.now ∧
    (reportFlushed t n s).lineOut = s.lineOut ∧ (reportFlushed t n s).freeCount = s.freeCount ∧
    (reportFlushed t n s).pending = s.pending ∧ (reportFlushed t n s).link = s.link := by
  simp only [reportFlushed]
  first | rfl | simp

@[simp] theorem reportPolicy_keeps (t : TenantId) (n : Nat) (s : State) :
    (reportPolicy t n s).directory = s.directory ∧ (reportPolicy t n s).stations = s.stations ∧
    (reportPolicy t n s).forwarding = s.forwarding ∧ (reportPolicy t n s).buffer = s.buffer ∧
    (reportPolicy t n s).relief = s.relief ∧ (reportPolicy t n s).ports = s.ports ∧
    (reportPolicy t n s).measurement = s.measurement ∧ (reportPolicy t n s).now = s.now ∧
    (reportPolicy t n s).lineOut = s.lineOut ∧ (reportPolicy t n s).freeCount = s.freeCount ∧
    (reportPolicy t n s).pending = s.pending ∧ (reportPolicy t n s).link = s.link := by
  simp only [reportPolicy]
  first | rfl | simp

@[simp] theorem reportUnavailable_keeps (t : TenantId) (n : Nat) (s : State) :
    (reportUnavailable t n s).directory = s.directory ∧ (reportUnavailable t n s).stations = s.stations ∧
    (reportUnavailable t n s).forwarding = s.forwarding ∧ (reportUnavailable t n s).buffer = s.buffer ∧
    (reportUnavailable t n s).relief = s.relief ∧ (reportUnavailable t n s).ports = s.ports ∧
    (reportUnavailable t n s).measurement = s.measurement ∧ (reportUnavailable t n s).now = s.now ∧
    (reportUnavailable t n s).lineOut = s.lineOut ∧ (reportUnavailable t n s).freeCount = s.freeCount ∧
    (reportUnavailable t n s).pending = s.pending ∧ (reportUnavailable t n s).link = s.link := by
  simp only [reportUnavailable]
  first | rfl | simp

@[simp] theorem reportPaced_keeps (t : TenantId) (n : Nat) (s : State) :
    (reportPaced t n s).directory = s.directory ∧ (reportPaced t n s).stations = s.stations ∧
    (reportPaced t n s).forwarding = s.forwarding ∧ (reportPaced t n s).buffer = s.buffer ∧
    (reportPaced t n s).relief = s.relief ∧ (reportPaced t n s).ports = s.ports ∧
    (reportPaced t n s).measurement = s.measurement ∧ (reportPaced t n s).now = s.now ∧
    (reportPaced t n s).lineOut = s.lineOut ∧ (reportPaced t n s).freeCount = s.freeCount ∧
    (reportPaced t n s).pending = s.pending ∧ (reportPaced t n s).link = s.link := by
  simp only [reportPaced]
  first | rfl | simp

@[simp] theorem reportCellTicks_keeps (t : TenantId) (n : Nat) (s : State) :
    (reportCellTicks t n s).directory = s.directory ∧ (reportCellTicks t n s).stations = s.stations ∧
    (reportCellTicks t n s).forwarding = s.forwarding ∧ (reportCellTicks t n s).buffer = s.buffer ∧
    (reportCellTicks t n s).relief = s.relief ∧ (reportCellTicks t n s).ports = s.ports ∧
    (reportCellTicks t n s).measurement = s.measurement ∧ (reportCellTicks t n s).now = s.now ∧
    (reportCellTicks t n s).lineOut = s.lineOut ∧ (reportCellTicks t n s).freeCount = s.freeCount ∧
    (reportCellTicks t n s).pending = s.pending ∧ (reportCellTicks t n s).link = s.link := by
  simp only [reportCellTicks]
  first | rfl | simp

@[simp] theorem reportAdmission_keeps (t : TenantId) (l a m r : Nat) (s : State) :
    (reportAdmission t l a m r s).directory = s.directory ∧
    (reportAdmission t l a m r s).stations = s.stations ∧
    (reportAdmission t l a m r s).forwarding = s.forwarding ∧
    (reportAdmission t l a m r s).buffer = s.buffer ∧ (reportAdmission t l a m r s).relief = s.relief ∧
    (reportAdmission t l a m r s).ports = s.ports ∧
    (reportAdmission t l a m r s).measurement = s.measurement ∧ (reportAdmission t l a m r s).now = s.now ∧
    (reportAdmission t l a m r s).lineOut = s.lineOut ∧
    (reportAdmission t l a m r s).freeCount = s.freeCount ∧
    (reportAdmission t l a m r s).pending = s.pending ∧ (reportAdmission t l a m r s).link = s.link := by
  simp only [reportAdmission]
  first | rfl | simp

@[simp] theorem placeEntry_keeps (e : StationEntry) (s : State) :
    (placeEntry e s).directory = s.directory ∧ (placeEntry e s).forwarding = s.forwarding ∧
    (placeEntry e s).buffer = s.buffer ∧ (placeEntry e s).relief = s.relief ∧
    (placeEntry e s).ports = s.ports ∧ (placeEntry e s).measurement = s.measurement ∧
    (placeEntry e s).billing = s.billing ∧ (placeEntry e s).now = s.now ∧
    (placeEntry e s).lineOut = s.lineOut ∧ (placeEntry e s).freeCount = s.freeCount ∧
    (placeEntry e s).pending = s.pending ∧ (placeEntry e s).link = s.link := by
  simp only [placeEntry]
  first | rfl | simp

@[simp] theorem modEntry_keeps (g : SegmentId) (a : StationAddr) (f : StationEntry → StationEntry) (s : State) :
    (modEntry g a f s).directory = s.directory ∧ (modEntry g a f s).forwarding = s.forwarding ∧
    (modEntry g a f s).buffer = s.buffer ∧ (modEntry g a f s).relief = s.relief ∧
    (modEntry g a f s).ports = s.ports ∧ (modEntry g a f s).measurement = s.measurement ∧
    (modEntry g a f s).billing = s.billing ∧ (modEntry g a f s).now = s.now ∧
    (modEntry g a f s).lineOut = s.lineOut ∧ (modEntry g a f s).freeCount = s.freeCount ∧
    (modEntry g a f s).pending = s.pending ∧ (modEntry g a f s).link = s.link := by
  simp only [modEntry]
  first | rfl | simp

@[simp] theorem removeEntries_keeps (gone : StationEntry → Bool) (s : State) :
    (removeEntries gone s).directory = s.directory ∧ (removeEntries gone s).forwarding = s.forwarding ∧
    (removeEntries gone s).buffer = s.buffer ∧ (removeEntries gone s).relief = s.relief ∧
    (removeEntries gone s).ports = s.ports ∧ (removeEntries gone s).measurement = s.measurement ∧
    (removeEntries gone s).billing = s.billing ∧ (removeEntries gone s).now = s.now ∧
    (removeEntries gone s).lineOut = s.lineOut ∧ (removeEntries gone s).freeCount = s.freeCount ∧
    (removeEntries gone s).pending = s.pending ∧ (removeEntries gone s).link = s.link := by
  simp only [removeEntries]
  first | rfl | simp

@[simp] theorem flushTarget_keeps (t : Target) (s : State) :
    (flushTarget t s).directory = s.directory ∧ (flushTarget t s).forwarding = s.forwarding ∧
    (flushTarget t s).buffer = s.buffer ∧ (flushTarget t s).relief = s.relief ∧
    (flushTarget t s).ports = s.ports ∧ (flushTarget t s).measurement = s.measurement ∧
    (flushTarget t s).billing = s.billing ∧ (flushTarget t s).now = s.now ∧
    (flushTarget t s).lineOut = s.lineOut ∧ (flushTarget t s).freeCount = s.freeCount ∧
    (flushTarget t s).pending = s.pending ∧ (flushTarget t s).link = s.link := by
  simp only [flushTarget]
  first | rfl | simp

@[simp] theorem flushSegment_keeps (g : SegmentId) (s : State) :
    (flushSegment g s).directory = s.directory ∧ (flushSegment g s).forwarding = s.forwarding ∧
    (flushSegment g s).buffer = s.buffer ∧ (flushSegment g s).relief = s.relief ∧
    (flushSegment g s).ports = s.ports ∧ (flushSegment g s).measurement = s.measurement ∧
    (flushSegment g s).billing = s.billing ∧ (flushSegment g s).now = s.now ∧
    (flushSegment g s).lineOut = s.lineOut ∧ (flushSegment g s).freeCount = s.freeCount ∧
    (flushSegment g s).pending = s.pending ∧ (flushSegment g s).link = s.link := by
  simp only [flushSegment]
  first | rfl | simp

@[simp] theorem handControl_keeps (p : Port) (c : ControlFrame) (s : State) :
    (handControl p c s).directory = s.directory ∧ (handControl p c s).stations = s.stations ∧
    (handControl p c s).forwarding = s.forwarding ∧ (handControl p c s).buffer = s.buffer ∧
    (handControl p c s).relief = s.relief ∧ (handControl p c s).measurement = s.measurement ∧
    (handControl p c s).billing = s.billing ∧ (handControl p c s).now = s.now ∧
    (handControl p c s).freeCount = s.freeCount ∧ (handControl p c s).pending = s.pending ∧
    (handControl p c s).link = s.link := by
  simp only [handControl]
  repeat' split
  all_goals first | rfl | simp

@[simp] theorem handBeacon_keeps (p : Port) (s : State) :
    (handBeacon p s).directory = s.directory ∧ (handBeacon p s).stations = s.stations ∧
    (handBeacon p s).forwarding = s.forwarding ∧ (handBeacon p s).buffer = s.buffer ∧
    (handBeacon p s).relief = s.relief ∧ (handBeacon p s).measurement = s.measurement ∧
    (handBeacon p s).billing = s.billing ∧ (handBeacon p s).now = s.now ∧
    (handBeacon p s).freeCount = s.freeCount ∧ (handBeacon p s).pending = s.pending ∧
    (handBeacon p s).link = s.link := by
  simp only [handBeacon]
  repeat' split
  all_goals first | rfl | simp

@[simp] theorem sendWaiting_keeps (p : Port) (s : State) :
    (sendWaiting p s).directory = s.directory ∧ (sendWaiting p s).stations = s.stations ∧
    (sendWaiting p s).forwarding = s.forwarding ∧ (sendWaiting p s).buffer = s.buffer ∧
    (sendWaiting p s).relief = s.relief ∧ (sendWaiting p s).measurement = s.measurement ∧
    (sendWaiting p s).billing = s.billing ∧ (sendWaiting p s).now = s.now ∧
    (sendWaiting p s).freeCount = s.freeCount ∧ (sendWaiting p s).pending = s.pending ∧
    (sendWaiting p s).link = s.link := by
  simp only [sendWaiting]
  repeat' split
  all_goals first | rfl | simp

@[simp] theorem discardWaiting_keeps (p : Port) (s : State) :
    (discardWaiting p s).directory = s.directory ∧ (discardWaiting p s).stations = s.stations ∧
    (discardWaiting p s).forwarding = s.forwarding ∧ (discardWaiting p s).buffer = s.buffer ∧
    (discardWaiting p s).relief = s.relief ∧ (discardWaiting p s).measurement = s.measurement ∧
    (discardWaiting p s).billing = s.billing ∧ (discardWaiting p s).now = s.now ∧
    (discardWaiting p s).lineOut = s.lineOut ∧ (discardWaiting p s).freeCount = s.freeCount ∧
    (discardWaiting p s).pending = s.pending ∧ (discardWaiting p s).link = s.link := by
  simp only [discardWaiting]
  first | rfl | simp

@[simp] theorem startPausing_keeps (p : Port) (s : State) :
    (startPausing p s).directory = s.directory ∧ (startPausing p s).stations = s.stations ∧
    (startPausing p s).forwarding = s.forwarding ∧ (startPausing p s).buffer = s.buffer ∧
    (startPausing p s).relief.settings = s.relief.settings ∧
    (startPausing p s).measurement = s.measurement ∧ (startPausing p s).billing = s.billing ∧
    (startPausing p s).now = s.now ∧ (startPausing p s).freeCount = s.freeCount ∧
    (startPausing p s).pending = s.pending ∧ (startPausing p s).link = s.link := by
  simp only [startPausing]
  first | rfl | simp

@[simp] theorem endPausing_keeps (p : Port) (s : State) :
    (endPausing p s).directory = s.directory ∧ (endPausing p s).stations = s.stations ∧
    (endPausing p s).forwarding = s.forwarding ∧ (endPausing p s).buffer = s.buffer ∧
    (endPausing p s).relief.settings = s.relief.settings ∧ (endPausing p s).measurement = s.measurement ∧
    (endPausing p s).billing = s.billing ∧ (endPausing p s).now = s.now ∧
    (endPausing p s).freeCount = s.freeCount ∧ (endPausing p s).pending = s.pending ∧
    (endPausing p s).link = s.link := by
  simp only [endPausing]
  repeat' split
  all_goals first | rfl | simp

@[simp] theorem forceIdle_keeps (p : Port) (s : State) :
    (forceIdle p s).directory = s.directory ∧ (forceIdle p s).stations = s.stations ∧
    (forceIdle p s).forwarding = s.forwarding ∧ (forceIdle p s).buffer = s.buffer ∧
    (forceIdle p s).relief.settings = s.relief.settings ∧ (forceIdle p s).ports = s.ports ∧
    (forceIdle p s).measurement = s.measurement ∧ (forceIdle p s).billing = s.billing ∧
    (forceIdle p s).now = s.now ∧ (forceIdle p s).lineOut = s.lineOut ∧
    (forceIdle p s).freeCount = s.freeCount ∧ (forceIdle p s).pending = s.pending ∧
    (forceIdle p s).link = s.link := by
  simp only [forceIdle]
  first | rfl | simp

@[simp] theorem handPacedPort_keeps (p : Port) (b : Bool) (s : State) :
    (handPacedPort p b s).directory = s.directory ∧ (handPacedPort p b s).stations = s.stations ∧
    (handPacedPort p b s).forwarding = s.forwarding ∧ (handPacedPort p b s).buffer = s.buffer ∧
    (handPacedPort p b s).relief.settings = s.relief.settings ∧
    (handPacedPort p b s).measurement = s.measurement ∧ (handPacedPort p b s).billing = s.billing ∧
    (handPacedPort p b s).now = s.now ∧ (handPacedPort p b s).freeCount = s.freeCount ∧
    (handPacedPort p b s).pending = s.pending ∧ (handPacedPort p b s).link = s.link := by
  simp only [handPacedPort]
  repeat' split
  all_goals first | rfl | simp

@[simp] theorem handPaced_keeps (s : State) :
    (handPaced s).directory = s.directory ∧ (handPaced s).stations = s.stations ∧
    (handPaced s).forwarding = s.forwarding ∧ (handPaced s).buffer = s.buffer ∧
    (handPaced s).relief.settings = s.relief.settings ∧ (handPaced s).measurement = s.measurement ∧
    (handPaced s).billing = s.billing ∧ (handPaced s).now = s.now ∧ (handPaced s).freeCount = s.freeCount ∧
    (handPaced s).pending = s.pending ∧ (handPaced s).link = s.link := by
  simp only [handPaced]
  exact ⟨foldl_keeps (g := fun t : State => t.directory) (fun t a => by simp) _ _,
    foldl_keeps (g := fun t : State => t.stations) (fun t a => by simp) _ _,
    foldl_keeps (g := fun t : State => t.forwarding) (fun t a => by simp) _ _,
    foldl_keeps (g := fun t : State => t.buffer) (fun t a => by simp) _ _,
    foldl_keeps (g := fun t : State => t.relief.settings) (fun t a => by simp) _ _,
    foldl_keeps (g := fun t : State => t.measurement) (fun t a => by simp) _ _,
    foldl_keeps (g := fun t : State => t.billing) (fun t a => by simp) _ _,
    foldl_keeps (g := fun t : State => t.now) (fun t a => by simp) _ _,
    foldl_keeps (g := fun t : State => t.freeCount) (fun t a => by simp) _ _,
    foldl_keeps (g := fun t : State => t.pending) (fun t a => by simp) _ _,
    foldl_keeps (g := fun t : State => t.link) (fun t a => by simp) _ _⟩

@[simp] theorem evaluateQueue_keeps (q : Port) (s : State) :
    (evaluateQueue q s).directory = s.directory ∧ (evaluateQueue q s).stations = s.stations ∧
    (evaluateQueue q s).forwarding = s.forwarding ∧ (evaluateQueue q s).buffer = s.buffer ∧
    (evaluateQueue q s).relief.settings = s.relief.settings ∧ (evaluateQueue q s).ports = s.ports ∧
    (evaluateQueue q s).measurement = s.measurement ∧ (evaluateQueue q s).billing = s.billing ∧
    (evaluateQueue q s).now = s.now ∧ (evaluateQueue q s).lineOut = s.lineOut ∧
    (evaluateQueue q s).freeCount = s.freeCount ∧ (evaluateQueue q s).pending = s.pending ∧
    (evaluateQueue q s).link.rx = s.link.rx ∧ (evaluateQueue q s).link.gap = s.link.gap ∧
    (evaluateQueue q s).link.places = s.link.places ∧ (evaluateQueue q s).link.overflow = s.link.overflow ∧
    (evaluateQueue q s).link.sending = s.link.sending ∧
    (evaluateQueue q s).link.noticeCount = s.link.noticeCount ∧
    (evaluateQueue q s).link.mask = s.link.mask ∧ (evaluateQueue q s).link.linkErrors = s.link.linkErrors ∧
    (evaluateQueue q s).link.restartRecord = s.link.restartRecord ∧
    (evaluateQueue q s).link.inRestart = s.link.inRestart ∧
    (evaluateQueue q s).link.restartHanded = s.link.restartHanded ∧
    (evaluateQueue q s).link.restartLineHigh = s.link.restartLineHigh := by
  simp only [evaluateQueue]
  repeat' split
  all_goals first | rfl | simp

@[simp] theorem leaveContributors_keeps (p : Port) (s : State) :
    (leaveContributors p s).directory = s.directory ∧ (leaveContributors p s).stations = s.stations ∧
    (leaveContributors p s).forwarding = s.forwarding ∧ (leaveContributors p s).buffer = s.buffer ∧
    (leaveContributors p s).relief.settings = s.relief.settings ∧ (leaveContributors p s).ports = s.ports ∧
    (leaveContributors p s).measurement = s.measurement ∧ (leaveContributors p s).billing = s.billing ∧
    (leaveContributors p s).now = s.now ∧ (leaveContributors p s).lineOut = s.lineOut ∧
    (leaveContributors p s).freeCount = s.freeCount ∧ (leaveContributors p s).pending = s.pending ∧
    (leaveContributors p s).link = s.link := by
  simp only [leaveContributors]
  first | rfl | simp

@[simp] theorem joinContributors_keeps (p : Port) (s : State) :
    (joinContributors p s).directory = s.directory ∧ (joinContributors p s).stations = s.stations ∧
    (joinContributors p s).forwarding = s.forwarding ∧ (joinContributors p s).buffer = s.buffer ∧
    (joinContributors p s).relief.settings = s.relief.settings ∧ (joinContributors p s).ports = s.ports ∧
    (joinContributors p s).measurement = s.measurement ∧ (joinContributors p s).billing = s.billing ∧
    (joinContributors p s).now = s.now ∧ (joinContributors p s).lineOut = s.lineOut ∧
    (joinContributors p s).freeCount = s.freeCount ∧ (joinContributors p s).pending = s.pending ∧
    (joinContributors p s).link = s.link := by
  simp only [joinContributors]
  first | rfl | simp

@[simp] theorem relieveDeparture_keeps (p : Port) (s : State) :
    (relieveDeparture p s).directory = s.directory ∧ (relieveDeparture p s).stations = s.stations ∧
    (relieveDeparture p s).forwarding = s.forwarding ∧ (relieveDeparture p s).buffer = s.buffer ∧
    (relieveDeparture p s).relief.settings = s.relief.settings ∧ (relieveDeparture p s).ports = s.ports ∧
    (relieveDeparture p s).measurement = s.measurement ∧ (relieveDeparture p s).billing = s.billing ∧
    (relieveDeparture p s).now = s.now ∧ (relieveDeparture p s).lineOut = s.lineOut ∧
    (relieveDeparture p s).freeCount = s.freeCount ∧ (relieveDeparture p s).pending = s.pending ∧
    (relieveDeparture p s).link = s.link := by
  simp only [relieveDeparture]
  first | rfl | simp

@[simp] theorem settle_keeps (b : State) (s : State) :
    (settle b s).directory = s.directory ∧ (settle b s).stations = s.stations ∧
    (settle b s).forwarding = s.forwarding ∧ (settle b s).buffer = s.buffer ∧
    (settle b s).relief.settings = s.relief.settings ∧ (settle b s).measurement = s.measurement ∧
    (settle b s).billing = s.billing ∧ (settle b s).now = s.now ∧ (settle b s).freeCount = s.freeCount ∧
    (settle b s).pending = s.pending ∧ (settle b s).link = s.link := by
  simp only [settle]
  first | rfl | simp

@[simp] theorem beginTransmission_keeps (c : TrafficClass) (p : Port) (s : State) :
    (beginTransmission c p s).directory = s.directory ∧ (beginTransmission c p s).stations = s.stations ∧
    (beginTransmission c p s).forwarding = s.forwarding ∧ (beginTransmission c p s).relief = s.relief ∧
    (beginTransmission c p s).ports = s.ports ∧ (beginTransmission c p s).measurement = s.measurement ∧
    (beginTransmission c p s).billing = s.billing ∧ (beginTransmission c p s).now = s.now ∧
    (beginTransmission c p s).freeCount = s.freeCount ∧ (beginTransmission c p s).pending = s.pending ∧
    (beginTransmission c p s).link = s.link := by
  simp only [beginTransmission]
  repeat' split
  all_goals first | rfl | simp

@[simp] theorem schedule_keeps (p : Port) (s : State) :
    (schedule p s).directory = s.directory ∧ (schedule p s).stations = s.stations ∧
    (schedule p s).forwarding = s.forwarding ∧ (schedule p s).relief = s.relief ∧
    (schedule p s).ports = s.ports ∧ (schedule p s).measurement = s.measurement ∧
    (schedule p s).billing = s.billing ∧ (schedule p s).now = s.now ∧
    (schedule p s).freeCount = s.freeCount ∧ (schedule p s).pending = s.pending ∧
    (schedule p s).link = s.link := by
  simp only [schedule]
  repeat' split
  all_goals first | rfl | simp

@[simp] theorem dropCopy_keeps (id : Nat) (s : State) :
    (dropCopy id s).directory = s.directory ∧ (dropCopy id s).stations = s.stations ∧
    (dropCopy id s).forwarding = s.forwarding ∧ (dropCopy id s).relief = s.relief ∧
    (dropCopy id s).ports = s.ports ∧ (dropCopy id s).measurement = s.measurement ∧
    (dropCopy id s).billing = s.billing ∧ (dropCopy id s).now = s.now ∧
    (dropCopy id s).lineOut = s.lineOut ∧ (dropCopy id s).freeCount = s.freeCount ∧
    (dropCopy id s).pending = s.pending ∧ (dropCopy id s).link = s.link := by
  simp only [dropCopy]
  first | rfl | simp

@[simp] theorem deliverCopy_keeps (id : Nat) (s : State) :
    (deliverCopy id s).directory = s.directory ∧ (deliverCopy id s).stations = s.stations ∧
    (deliverCopy id s).forwarding = s.forwarding ∧ (deliverCopy id s).relief = s.relief ∧
    (deliverCopy id s).ports = s.ports ∧ (deliverCopy id s).measurement = s.measurement ∧
    (deliverCopy id s).now = s.now ∧ (deliverCopy id s).lineOut = s.lineOut ∧
    (deliverCopy id s).freeCount = s.freeCount ∧ (deliverCopy id s).pending = s.pending ∧
    (deliverCopy id s).link = s.link := by
  simp only [deliverCopy]
  repeat' split
  all_goals first | rfl | simp

@[simp] theorem flushCopy_keeps (id : Nat) (s : State) :
    (flushCopy id s).directory = s.directory ∧ (flushCopy id s).stations = s.stations ∧
    (flushCopy id s).forwarding = s.forwarding ∧ (flushCopy id s).relief = s.relief ∧
    (flushCopy id s).ports = s.ports ∧ (flushCopy id s).measurement = s.measurement ∧
    (flushCopy id s).now = s.now ∧ (flushCopy id s).lineOut = s.lineOut ∧
    (flushCopy id s).freeCount = s.freeCount ∧ (flushCopy id s).pending = s.pending ∧
    (flushCopy id s).link = s.link := by
  simp only [flushCopy]
  repeat' split
  all_goals first | rfl | simp

@[simp] theorem flushCopies_keeps (cs : List CopyEntry) (s : State) :
    (flushCopies cs s).directory = s.directory ∧ (flushCopies cs s).stations = s.stations ∧
    (flushCopies cs s).forwarding = s.forwarding ∧ (flushCopies cs s).relief = s.relief ∧
    (flushCopies cs s).ports = s.ports ∧ (flushCopies cs s).measurement = s.measurement ∧
    (flushCopies cs s).now = s.now ∧ (flushCopies cs s).lineOut = s.lineOut ∧
    (flushCopies cs s).freeCount = s.freeCount ∧ (flushCopies cs s).pending = s.pending ∧
    (flushCopies cs s).link = s.link := by
  simp only [flushCopies]
  exact ⟨foldl_keeps (g := fun t : State => t.directory) (fun t a => by simp) _ _,
    foldl_keeps (g := fun t : State => t.stations) (fun t a => by simp) _ _,
    foldl_keeps (g := fun t : State => t.forwarding) (fun t a => by simp) _ _,
    foldl_keeps (g := fun t : State => t.relief) (fun t a => by simp) _ _,
    foldl_keeps (g := fun t : State => t.ports) (fun t a => by simp) _ _,
    foldl_keeps (g := fun t : State => t.measurement) (fun t a => by simp) _ _,
    foldl_keeps (g := fun t : State => t.now) (fun t a => by simp) _ _,
    foldl_keeps (g := fun t : State => t.lineOut) (fun t a => by simp) _ _,
    foldl_keeps (g := fun t : State => t.freeCount) (fun t a => by simp) _ _,
    foldl_keeps (g := fun t : State => t.pending) (fun t a => by simp) _ _,
    foldl_keeps (g := fun t : State => t.link) (fun t a => by simp) _ _⟩

@[simp] theorem abortTransmission_keeps (p : Port) (s : State) :
    (abortTransmission p s).directory = s.directory ∧ (abortTransmission p s).stations = s.stations ∧
    (abortTransmission p s).forwarding = s.forwarding ∧ (abortTransmission p s).buffer = s.buffer ∧
    (abortTransmission p s).relief = s.relief ∧ (abortTransmission p s).ports = s.ports ∧
    (abortTransmission p s).measurement = s.measurement ∧ (abortTransmission p s).billing = s.billing ∧
    (abortTransmission p s).now = s.now ∧ (abortTransmission p s).freeCount = s.freeCount ∧
    (abortTransmission p s).pending = s.pending ∧ (abortTransmission p s).link = s.link := by
  simp only [abortTransmission]
  repeat' split
  all_goals first | rfl | simp

@[simp] theorem emptyQueues_keeps (p : Port) (s : State) :
    (emptyQueues p s).directory = s.directory ∧ (emptyQueues p s).stations = s.stations ∧
    (emptyQueues p s).forwarding = s.forwarding ∧ (emptyQueues p s).relief = s.relief ∧
    (emptyQueues p s).ports = s.ports ∧ (emptyQueues p s).measurement = s.measurement ∧
    (emptyQueues p s).billing = s.billing ∧ (emptyQueues p s).now = s.now ∧
    (emptyQueues p s).lineOut = s.lineOut ∧ (emptyQueues p s).freeCount = s.freeCount ∧
    (emptyQueues p s).pending = s.pending ∧ (emptyQueues p s).link = s.link := by
  simp only [emptyQueues]
  first | rfl | simp

@[simp] theorem evaluateIfChanged_keeps (q : Port) (b : State) (s : State) :
    (evaluateIfChanged q b s).directory = s.directory ∧ (evaluateIfChanged q b s).stations = s.stations ∧
    (evaluateIfChanged q b s).forwarding = s.forwarding ∧ (evaluateIfChanged q b s).buffer = s.buffer ∧
    (evaluateIfChanged q b s).relief.settings = s.relief.settings ∧
    (evaluateIfChanged q b s).ports = s.ports ∧ (evaluateIfChanged q b s).measurement = s.measurement ∧
    (evaluateIfChanged q b s).billing = s.billing ∧ (evaluateIfChanged q b s).now = s.now ∧
    (evaluateIfChanged q b s).lineOut = s.lineOut ∧ (evaluateIfChanged q b s).freeCount = s.freeCount ∧
    (evaluateIfChanged q b s).pending = s.pending ∧ (evaluateIfChanged q b s).link.rx = s.link.rx ∧
    (evaluateIfChanged q b s).link.gap = s.link.gap ∧
    (evaluateIfChanged q b s).link.places = s.link.places ∧
    (evaluateIfChanged q b s).link.overflow = s.link.overflow ∧
    (evaluateIfChanged q b s).link.sending = s.link.sending ∧
    (evaluateIfChanged q b s).link.noticeCount = s.link.noticeCount ∧
    (evaluateIfChanged q b s).link.mask = s.link.mask ∧
    (evaluateIfChanged q b s).link.linkErrors = s.link.linkErrors ∧
    (evaluateIfChanged q b s).link.restartRecord = s.link.restartRecord ∧
    (evaluateIfChanged q b s).link.inRestart = s.link.inRestart ∧
    (evaluateIfChanged q b s).link.restartHanded = s.link.restartHanded ∧
    (evaluateIfChanged q b s).link.restartLineHigh = s.link.restartLineHigh := by
  simp only [evaluateIfChanged]
  repeat' split
  all_goals first | rfl | simp

@[simp] theorem evaluateChanged_keeps (qs : List Port) (b : State) (s : State) :
    (evaluateChanged qs b s).directory = s.directory ∧ (evaluateChanged qs b s).stations = s.stations ∧
    (evaluateChanged qs b s).forwarding = s.forwarding ∧ (evaluateChanged qs b s).buffer = s.buffer ∧
    (evaluateChanged qs b s).relief.settings = s.relief.settings ∧
    (evaluateChanged qs b s).ports = s.ports ∧ (evaluateChanged qs b s).measurement = s.measurement ∧
    (evaluateChanged qs b s).billing = s.billing ∧ (evaluateChanged qs b s).now = s.now ∧
    (evaluateChanged qs b s).lineOut = s.lineOut ∧ (evaluateChanged qs b s).freeCount = s.freeCount ∧
    (evaluateChanged qs b s).pending = s.pending ∧ (evaluateChanged qs b s).link.rx = s.link.rx ∧
    (evaluateChanged qs b s).link.gap = s.link.gap ∧ (evaluateChanged qs b s).link.places = s.link.places ∧
    (evaluateChanged qs b s).link.overflow = s.link.overflow ∧
    (evaluateChanged qs b s).link.sending = s.link.sending ∧
    (evaluateChanged qs b s).link.noticeCount = s.link.noticeCount ∧
    (evaluateChanged qs b s).link.mask = s.link.mask ∧
    (evaluateChanged qs b s).link.linkErrors = s.link.linkErrors ∧
    (evaluateChanged qs b s).link.restartRecord = s.link.restartRecord ∧
    (evaluateChanged qs b s).link.inRestart = s.link.inRestart ∧
    (evaluateChanged qs b s).link.restartHanded = s.link.restartHanded ∧
    (evaluateChanged qs b s).link.restartLineHigh = s.link.restartLineHigh := by
  simp only [evaluateChanged]
  exact ⟨foldl_keeps (g := fun t : State => t.directory) (fun t a => by simp) _ _,
    foldl_keeps (g := fun t : State => t.stations) (fun t a => by simp) _ _,
    foldl_keeps (g := fun t : State => t.forwarding) (fun t a => by simp) _ _,
    foldl_keeps (g := fun t : State => t.buffer) (fun t a => by simp) _ _,
    foldl_keeps (g := fun t : State => t.relief.settings) (fun t a => by simp) _ _,
    foldl_keeps (g := fun t : State => t.ports) (fun t a => by simp) _ _,
    foldl_keeps (g := fun t : State => t.measurement) (fun t a => by simp) _ _,
    foldl_keeps (g := fun t : State => t.billing) (fun t a => by simp) _ _,
    foldl_keeps (g := fun t : State => t.now) (fun t a => by simp) _ _,
    foldl_keeps (g := fun t : State => t.lineOut) (fun t a => by simp) _ _,
    foldl_keeps (g := fun t : State => t.freeCount) (fun t a => by simp) _ _,
    foldl_keeps (g := fun t : State => t.pending) (fun t a => by simp) _ _,
    foldl_keeps (g := fun t : State => t.link.rx) (fun t a => by simp) _ _,
    foldl_keeps (g := fun t : State => t.link.gap) (fun t a => by simp) _ _,
    foldl_keeps (g := fun t : State => t.link.places) (fun t a => by simp) _ _,
    foldl_keeps (g := fun t : State => t.link.overflow) (fun t a => by simp) _ _,
    foldl_keeps (g := fun t : State => t.link.sending) (fun t a => by simp) _ _,
    foldl_keeps (g := fun t : State => t.link.noticeCount) (fun t a => by simp) _ _,
    foldl_keeps (g := fun t : State => t.link.mask) (fun t a => by simp) _ _,
    foldl_keeps (g := fun t : State => t.link.linkErrors) (fun t a => by simp) _ _,
    foldl_keeps (g := fun t : State => t.link.restartRecord) (fun t a => by simp) _ _,
    foldl_keeps (g := fun t : State => t.link.inRestart) (fun t a => by simp) _ _,
    foldl_keeps (g := fun t : State => t.link.restartHanded) (fun t a => by simp) _ _,
    foldl_keeps (g := fun t : State => t.link.restartLineHigh) (fun t a => by simp) _ _⟩

@[simp] theorem evaluateAll_keeps (qs : List Port) (s : State) :
    (evaluateAll qs s).directory = s.directory ∧ (evaluateAll qs s).stations = s.stations ∧
    (evaluateAll qs s).forwarding = s.forwarding ∧ (evaluateAll qs s).buffer = s.buffer ∧
    (evaluateAll qs s).relief.settings = s.relief.settings ∧ (evaluateAll qs s).ports = s.ports ∧
    (evaluateAll qs s).measurement = s.measurement ∧ (evaluateAll qs s).billing = s.billing ∧
    (evaluateAll qs s).now = s.now ∧ (evaluateAll qs s).lineOut = s.lineOut ∧
    (evaluateAll qs s).freeCount = s.freeCount ∧ (evaluateAll qs s).pending = s.pending ∧
    (evaluateAll qs s).link.rx = s.link.rx ∧ (evaluateAll qs s).link.gap = s.link.gap ∧
    (evaluateAll qs s).link.places = s.link.places ∧ (evaluateAll qs s).link.overflow = s.link.overflow ∧
    (evaluateAll qs s).link.sending = s.link.sending ∧
    (evaluateAll qs s).link.noticeCount = s.link.noticeCount ∧ (evaluateAll qs s).link.mask = s.link.mask ∧
    (evaluateAll qs s).link.linkErrors = s.link.linkErrors ∧
    (evaluateAll qs s).link.restartRecord = s.link.restartRecord ∧
    (evaluateAll qs s).link.inRestart = s.link.inRestart ∧
    (evaluateAll qs s).link.restartHanded = s.link.restartHanded ∧
    (evaluateAll qs s).link.restartLineHigh = s.link.restartLineHigh := by
  simp only [evaluateAll]
  exact ⟨foldl_keeps (g := fun t : State => t.directory) (fun t a => by simp) _ _,
    foldl_keeps (g := fun t : State => t.stations) (fun t a => by simp) _ _,
    foldl_keeps (g := fun t : State => t.forwarding) (fun t a => by simp) _ _,
    foldl_keeps (g := fun t : State => t.buffer) (fun t a => by simp) _ _,
    foldl_keeps (g := fun t : State => t.relief.settings) (fun t a => by simp) _ _,
    foldl_keeps (g := fun t : State => t.ports) (fun t a => by simp) _ _,
    foldl_keeps (g := fun t : State => t.measurement) (fun t a => by simp) _ _,
    foldl_keeps (g := fun t : State => t.billing) (fun t a => by simp) _ _,
    foldl_keeps (g := fun t : State => t.now) (fun t a => by simp) _ _,
    foldl_keeps (g := fun t : State => t.lineOut) (fun t a => by simp) _ _,
    foldl_keeps (g := fun t : State => t.freeCount) (fun t a => by simp) _ _,
    foldl_keeps (g := fun t : State => t.pending) (fun t a => by simp) _ _,
    foldl_keeps (g := fun t : State => t.link.rx) (fun t a => by simp) _ _,
    foldl_keeps (g := fun t : State => t.link.gap) (fun t a => by simp) _ _,
    foldl_keeps (g := fun t : State => t.link.places) (fun t a => by simp) _ _,
    foldl_keeps (g := fun t : State => t.link.overflow) (fun t a => by simp) _ _,
    foldl_keeps (g := fun t : State => t.link.sending) (fun t a => by simp) _ _,
    foldl_keeps (g := fun t : State => t.link.noticeCount) (fun t a => by simp) _ _,
    foldl_keeps (g := fun t : State => t.link.mask) (fun t a => by simp) _ _,
    foldl_keeps (g := fun t : State => t.link.linkErrors) (fun t a => by simp) _ _,
    foldl_keeps (g := fun t : State => t.link.restartRecord) (fun t a => by simp) _ _,
    foldl_keeps (g := fun t : State => t.link.inRestart) (fun t a => by simp) _ _,
    foldl_keeps (g := fun t : State => t.link.restartHanded) (fun t a => by simp) _ _,
    foldl_keeps (g := fun t : State => t.link.restartLineHigh) (fun t a => by simp) _ _⟩

@[simp] theorem scheduleAll_keeps (ps : List Port) (s : State) :
    (scheduleAll ps s).directory = s.directory ∧ (scheduleAll ps s).stations = s.stations ∧
    (scheduleAll ps s).forwarding = s.forwarding ∧ (scheduleAll ps s).relief = s.relief ∧
    (scheduleAll ps s).ports = s.ports ∧ (scheduleAll ps s).measurement = s.measurement ∧
    (scheduleAll ps s).billing = s.billing ∧ (scheduleAll ps s).now = s.now ∧
    (scheduleAll ps s).freeCount = s.freeCount ∧ (scheduleAll ps s).pending = s.pending ∧
    (scheduleAll ps s).link = s.link := by
  simp only [scheduleAll]
  exact ⟨foldl_keeps (g := fun t : State => t.directory) (fun t a => by simp) _ _,
    foldl_keeps (g := fun t : State => t.stations) (fun t a => by simp) _ _,
    foldl_keeps (g := fun t : State => t.forwarding) (fun t a => by simp) _ _,
    foldl_keeps (g := fun t : State => t.relief) (fun t a => by simp) _ _,
    foldl_keeps (g := fun t : State => t.ports) (fun t a => by simp) _ _,
    foldl_keeps (g := fun t : State => t.measurement) (fun t a => by simp) _ _,
    foldl_keeps (g := fun t : State => t.billing) (fun t a => by simp) _ _,
    foldl_keeps (g := fun t : State => t.now) (fun t a => by simp) _ _,
    foldl_keeps (g := fun t : State => t.freeCount) (fun t a => by simp) _ _,
    foldl_keeps (g := fun t : State => t.pending) (fun t a => by simp) _ _,
    foldl_keeps (g := fun t : State => t.link) (fun t a => by simp) _ _⟩

@[simp] theorem flushPort_keeps (p : Port) (s : State) :
    (flushPort p s).1.directory = s.directory ∧ (flushPort p s).1.stations = s.stations ∧
    (flushPort p s).1.forwarding = s.forwarding ∧ (flushPort p s).1.relief.settings = s.relief.settings ∧
    (flushPort p s).1.ports = s.ports ∧ (flushPort p s).1.measurement = s.measurement ∧
    (flushPort p s).1.now = s.now ∧ (flushPort p s).1.freeCount = s.freeCount ∧
    (flushPort p s).1.pending = s.pending ∧ (flushPort p s).1.link.rx = s.link.rx ∧
    (flushPort p s).1.link.gap = s.link.gap ∧ (flushPort p s).1.link.places = s.link.places ∧
    (flushPort p s).1.link.overflow = s.link.overflow ∧ (flushPort p s).1.link.sending = s.link.sending ∧
    (flushPort p s).1.link.noticeCount = s.link.noticeCount ∧ (flushPort p s).1.link.mask = s.link.mask ∧
    (flushPort p s).1.link.linkErrors = s.link.linkErrors ∧
    (flushPort p s).1.link.restartRecord = s.link.restartRecord ∧
    (flushPort p s).1.link.inRestart = s.link.inRestart ∧
    (flushPort p s).1.link.restartHanded = s.link.restartHanded ∧
    (flushPort p s).1.link.restartLineHigh = s.link.restartLineHigh := by
  simp only [flushPort]
  first | rfl | simp

@[simp] theorem rehomeHeld_keeps (p : Port) (cs : List CopyEntry) (s : State) :
    (rehomeHeld p cs s).directory = s.directory ∧ (rehomeHeld p cs s).stations = s.stations ∧
    (rehomeHeld p cs s).forwarding = s.forwarding ∧ (rehomeHeld p cs s).relief = s.relief ∧
    (rehomeHeld p cs s).ports = s.ports ∧ (rehomeHeld p cs s).measurement = s.measurement ∧
    (rehomeHeld p cs s).now = s.now ∧ (rehomeHeld p cs s).lineOut = s.lineOut ∧
    (rehomeHeld p cs s).freeCount = s.freeCount ∧ (rehomeHeld p cs s).pending = s.pending ∧
    (rehomeHeld p cs s).link = s.link := by
  simp only [rehomeHeld]
  exact ⟨foldl_keeps (g := fun t : State => t.directory) (fun t a => by split <;> simp) _ _,
    foldl_keeps (g := fun t : State => t.stations) (fun t a => by split <;> simp) _ _,
    foldl_keeps (g := fun t : State => t.forwarding) (fun t a => by split <;> simp) _ _,
    foldl_keeps (g := fun t : State => t.relief) (fun t a => by split <;> simp) _ _,
    foldl_keeps (g := fun t : State => t.ports) (fun t a => by split <;> simp) _ _,
    foldl_keeps (g := fun t : State => t.measurement) (fun t a => by split <;> simp) _ _,
    foldl_keeps (g := fun t : State => t.now) (fun t a => by split <;> simp) _ _,
    foldl_keeps (g := fun t : State => t.lineOut) (fun t a => by split <;> simp) _ _,
    foldl_keeps (g := fun t : State => t.freeCount) (fun t a => by split <;> simp) _ _,
    foldl_keeps (g := fun t : State => t.pending) (fun t a => by split <;> simp) _ _,
    foldl_keeps (g := fun t : State => t.link) (fun t a => by split <;> simp) _ _⟩

@[simp] theorem rehomePort_keeps (p : Port) (s : State) :
    (rehomePort p s).1.directory = s.directory ∧ (rehomePort p s).1.stations = s.stations ∧
    (rehomePort p s).1.forwarding = s.forwarding ∧ (rehomePort p s).1.relief.settings = s.relief.settings ∧
    (rehomePort p s).1.ports = s.ports ∧ (rehomePort p s).1.measurement = s.measurement ∧
    (rehomePort p s).1.now = s.now ∧ (rehomePort p s).1.freeCount = s.freeCount ∧
    (rehomePort p s).1.pending = s.pending ∧ (rehomePort p s).1.link.rx = s.link.rx ∧
    (rehomePort p s).1.link.gap = s.link.gap ∧ (rehomePort p s).1.link.places = s.link.places ∧
    (rehomePort p s).1.link.overflow = s.link.overflow ∧ (rehomePort p s).1.link.sending = s.link.sending ∧
    (rehomePort p s).1.link.noticeCount = s.link.noticeCount ∧ (rehomePort p s).1.link.mask = s.link.mask ∧
    (rehomePort p s).1.link.linkErrors = s.link.linkErrors ∧
    (rehomePort p s).1.link.restartRecord = s.link.restartRecord ∧
    (rehomePort p s).1.link.inRestart = s.link.inRestart ∧
    (rehomePort p s).1.link.restartHanded = s.link.restartHanded ∧
    (rehomePort p s).1.link.restartLineHigh = s.link.restartLineHigh := by
  simp only [rehomePort]
  first | rfl | simp

@[simp] theorem completeHead_keeps (c : TrafficClass) (p : Port) (s : State) :
    (completeHead c p s).directory = s.directory ∧ (completeHead c p s).stations = s.stations ∧
    (completeHead c p s).forwarding = s.forwarding ∧
    (completeHead c p s).relief.settings = s.relief.settings ∧
    (completeHead c p s).measurement = s.measurement ∧ (completeHead c p s).now = s.now ∧
    (completeHead c p s).freeCount = s.freeCount ∧ (completeHead c p s).pending = s.pending ∧
    (completeHead c p s).link.rx = s.link.rx ∧ (completeHead c p s).link.gap = s.link.gap ∧
    (completeHead c p s).link.places = s.link.places ∧
    (completeHead c p s).link.overflow = s.link.overflow ∧
    (completeHead c p s).link.sending = s.link.sending ∧
    (completeHead c p s).link.noticeCount = s.link.noticeCount ∧
    (completeHead c p s).link.mask = s.link.mask ∧
    (completeHead c p s).link.linkErrors = s.link.linkErrors ∧
    (completeHead c p s).link.restartRecord = s.link.restartRecord ∧
    (completeHead c p s).link.inRestart = s.link.inRestart ∧
    (completeHead c p s).link.restartHanded = s.link.restartHanded ∧
    (completeHead c p s).link.restartLineHigh = s.link.restartLineHigh := by
  simp only [completeHead]
  repeat' split
  all_goals first | rfl | simp

@[simp] theorem storeFrame_keeps (o : Offer) (id : Nat) (st : Storage) (ps : List Port) (s : State) :
    (storeFrame o id st ps s).directory = s.directory ∧ (storeFrame o id st ps s).stations = s.stations ∧
    (storeFrame o id st ps s).forwarding = s.forwarding ∧ (storeFrame o id st ps s).relief = s.relief ∧
    (storeFrame o id st ps s).ports = s.ports ∧ (storeFrame o id st ps s).measurement = s.measurement ∧
    (storeFrame o id st ps s).billing = s.billing ∧ (storeFrame o id st ps s).now = s.now ∧
    (storeFrame o id st ps s).lineOut = s.lineOut ∧ (storeFrame o id st ps s).freeCount = s.freeCount ∧
    (storeFrame o id st ps s).pending = s.pending ∧ (storeFrame o id st ps s).link = s.link := by
  simp only [storeFrame]
  exact ⟨foldl_keeps (g := fun t : State => t.directory) (fun t a => by simp) _ _,
    foldl_keeps (g := fun t : State => t.stations) (fun t a => by simp) _ _,
    foldl_keeps (g := fun t : State => t.forwarding) (fun t a => by simp) _ _,
    foldl_keeps (g := fun t : State => t.relief) (fun t a => by simp) _ _,
    foldl_keeps (g := fun t : State => t.ports) (fun t a => by simp) _ _,
    foldl_keeps (g := fun t : State => t.measurement) (fun t a => by simp) _ _,
    foldl_keeps (g := fun t : State => t.billing) (fun t a => by simp) _ _,
    foldl_keeps (g := fun t : State => t.now) (fun t a => by simp) _ _,
    foldl_keeps (g := fun t : State => t.lineOut) (fun t a => by simp) _ _,
    foldl_keeps (g := fun t : State => t.freeCount) (fun t a => by simp) _ _,
    foldl_keeps (g := fun t : State => t.pending) (fun t a => by simp) _ _,
    foldl_keeps (g := fun t : State => t.link) (fun t a => by simp) _ _⟩

@[simp] theorem admission_keeps (o : Offer) (s : State) :
    (admission o s).directory = s.directory ∧ (admission o s).stations = s.stations ∧
    (admission o s).forwarding = s.forwarding ∧ (admission o s).relief.settings = s.relief.settings ∧
    (admission o s).ports = s.ports ∧ (admission o s).measurement = s.measurement ∧
    (admission o s).now = s.now ∧ (admission o s).freeCount = s.freeCount ∧
    (admission o s).pending = s.pending ∧ (admission o s).link.rx = s.link.rx ∧
    (admission o s).link.gap = s.link.gap ∧ (admission o s).link.places = s.link.places ∧
    (admission o s).link.overflow = s.link.overflow ∧ (admission o s).link.sending = s.link.sending ∧
    (admission o s).link.noticeCount = s.link.noticeCount ∧ (admission o s).link.mask = s.link.mask ∧
    (admission o s).link.linkErrors = s.link.linkErrors ∧
    (admission o s).link.restartRecord = s.link.restartRecord ∧
    (admission o s).link.inRestart = s.link.inRestart ∧
    (admission o s).link.restartHanded = s.link.restartHanded ∧
    (admission o s).link.restartLineHigh = s.link.restartLineHigh := by
  simp only [admission]
  repeat' split
  all_goals first | rfl | simp

@[simp] theorem beginMeasurement_keeps (s : State) :
    (beginMeasurement s).directory = s.directory ∧ (beginMeasurement s).stations = s.stations ∧
    (beginMeasurement s).forwarding = s.forwarding ∧ (beginMeasurement s).buffer = s.buffer ∧
    (beginMeasurement s).relief = s.relief ∧ (beginMeasurement s).ports = s.ports ∧
    (beginMeasurement s).billing = s.billing ∧ (beginMeasurement s).now = s.now ∧
    (beginMeasurement s).lineOut = s.lineOut ∧ (beginMeasurement s).freeCount = s.freeCount ∧
    (beginMeasurement s).pending = s.pending ∧ (beginMeasurement s).link = s.link := by
  simp only [beginMeasurement]
  repeat' split
  all_goals first | rfl | simp

@[simp] theorem withdraw_keeps (p : Port) (s : State) :
    (withdraw p s).directory = s.directory ∧ (withdraw p s).stations = s.stations ∧
    (withdraw p s).forwarding = s.forwarding ∧ (withdraw p s).buffer = s.buffer ∧
    (withdraw p s).relief = s.relief ∧ (withdraw p s).ports = s.ports ∧
    (withdraw p s).billing = s.billing ∧ (withdraw p s).now = s.now ∧ (withdraw p s).lineOut = s.lineOut ∧
    (withdraw p s).freeCount = s.freeCount ∧ (withdraw p s).pending = s.pending ∧
    (withdraw p s).link.rx = s.link.rx ∧ (withdraw p s).link.gap = s.link.gap ∧
    (withdraw p s).link.places = s.link.places ∧ (withdraw p s).link.overflow = s.link.overflow ∧
    (withdraw p s).link.sending = s.link.sending ∧ (withdraw p s).link.noticeCount = s.link.noticeCount ∧
    (withdraw p s).link.mask = s.link.mask ∧ (withdraw p s).link.linkErrors = s.link.linkErrors ∧
    (withdraw p s).link.restartRecord = s.link.restartRecord ∧
    (withdraw p s).link.inRestart = s.link.inRestart ∧
    (withdraw p s).link.restartHanded = s.link.restartHanded ∧
    (withdraw p s).link.restartLineHigh = s.link.restartLineHigh := by
  simp only [withdraw]
  repeat' split
  all_goals first | rfl | simp

@[simp] theorem fileRecovery_keeps (p : Port) (s : State) :
    (fileRecovery p s).directory = s.directory ∧ (fileRecovery p s).stations = s.stations ∧
    (fileRecovery p s).forwarding = s.forwarding ∧ (fileRecovery p s).buffer = s.buffer ∧
    (fileRecovery p s).relief = s.relief ∧ (fileRecovery p s).billing = s.billing ∧
    (fileRecovery p s).now = s.now ∧ (fileRecovery p s).lineOut = s.lineOut ∧
    (fileRecovery p s).freeCount = s.freeCount ∧ (fileRecovery p s).pending = s.pending ∧
    (fileRecovery p s).link.rx = s.link.rx ∧ (fileRecovery p s).link.gap = s.link.gap ∧
    (fileRecovery p s).link.places = s.link.places ∧ (fileRecovery p s).link.overflow = s.link.overflow ∧
    (fileRecovery p s).link.sending = s.link.sending ∧
    (fileRecovery p s).link.noticeCount = s.link.noticeCount ∧ (fileRecovery p s).link.mask = s.link.mask ∧
    (fileRecovery p s).link.linkErrors = s.link.linkErrors ∧
    (fileRecovery p s).link.restartRecord = s.link.restartRecord ∧
    (fileRecovery p s).link.inRestart = s.link.inRestart ∧
    (fileRecovery p s).link.restartHanded = s.link.restartHanded ∧
    (fileRecovery p s).link.restartLineHigh = s.link.restartLineHigh := by
  simp only [fileRecovery]
  first | rfl | simp

@[simp] theorem fileHost_keeps (p : Port) (s : State) :
    (fileHost p s).directory = s.directory ∧ (fileHost p s).stations = s.stations ∧
    (fileHost p s).forwarding = s.forwarding ∧ (fileHost p s).buffer = s.buffer ∧
    (fileHost p s).relief = s.relief ∧ (fileHost p s).ports = s.ports ∧
    (fileHost p s).billing = s.billing ∧ (fileHost p s).now = s.now ∧ (fileHost p s).lineOut = s.lineOut ∧
    (fileHost p s).freeCount = s.freeCount ∧ (fileHost p s).pending = s.pending ∧
    (fileHost p s).link = s.link := by
  simp only [fileHost]
  first | rfl | simp

@[simp] theorem spoilMeasurement_keeps (p : Port) (s : State) :
    (spoilMeasurement p s).directory = s.directory ∧ (spoilMeasurement p s).stations = s.stations ∧
    (spoilMeasurement p s).forwarding = s.forwarding ∧ (spoilMeasurement p s).buffer = s.buffer ∧
    (spoilMeasurement p s).relief = s.relief ∧ (spoilMeasurement p s).ports = s.ports ∧
    (spoilMeasurement p s).billing = s.billing ∧ (spoilMeasurement p s).now = s.now ∧
    (spoilMeasurement p s).lineOut = s.lineOut ∧ (spoilMeasurement p s).freeCount = s.freeCount ∧
    (spoilMeasurement p s).pending = s.pending ∧ (spoilMeasurement p s).link = s.link := by
  simp only [spoilMeasurement]
  first | rfl | simp

@[simp] theorem setLink_keeps (p : Port) (l : LinkState) (s : State) :
    (setLink p l s).directory = s.directory ∧ (setLink p l s).stations = s.stations ∧
    (setLink p l s).forwarding = s.forwarding ∧ (setLink p l s).buffer = s.buffer ∧
    (setLink p l s).relief = s.relief ∧ (setLink p l s).measurement = s.measurement ∧
    (setLink p l s).billing = s.billing ∧ (setLink p l s).now = s.now ∧
    (setLink p l s).lineOut = s.lineOut ∧ (setLink p l s).freeCount = s.freeCount ∧
    (setLink p l s).pending = s.pending ∧ (setLink p l s).link.rx = s.link.rx ∧
    (setLink p l s).link.gap = s.link.gap ∧ (setLink p l s).link.places = s.link.places ∧
    (setLink p l s).link.overflow = s.link.overflow ∧ (setLink p l s).link.sending = s.link.sending ∧
    (setLink p l s).link.noticeCount = s.link.noticeCount ∧ (setLink p l s).link.mask = s.link.mask ∧
    (setLink p l s).link.linkErrors = s.link.linkErrors ∧
    (setLink p l s).link.restartRecord = s.link.restartRecord ∧
    (setLink p l s).link.inRestart = s.link.inRestart ∧
    (setLink p l s).link.restartHanded = s.link.restartHanded ∧
    (setLink p l s).link.restartLineHigh = s.link.restartLineHigh := by
  simp only [setLink]
  first | rfl | simp

@[simp] theorem cutReception_keeps (p : Port) (x : Option (BitVec 48)) (s : State) :
    (cutReception p x s).directory = s.directory ∧ (cutReception p x s).stations = s.stations ∧
    (cutReception p x s).forwarding = s.forwarding ∧ (cutReception p x s).buffer = s.buffer ∧
    (cutReception p x s).relief = s.relief ∧ (cutReception p x s).measurement = s.measurement ∧
    (cutReception p x s).billing = s.billing ∧ (cutReception p x s).now = s.now ∧
    (cutReception p x s).lineOut = s.lineOut ∧ (cutReception p x s).freeCount = s.freeCount ∧
    (cutReception p x s).pending = s.pending ∧ (cutReception p x s).link = s.link := by
  simp only [cutReception]
  first | rfl | simp

@[simp] theorem endBreak_keeps (p : Port) (s : State) :
    (endBreak p s).directory = s.directory ∧ (endBreak p s).stations = s.stations ∧
    (endBreak p s).forwarding = s.forwarding ∧ (endBreak p s).buffer = s.buffer ∧
    (endBreak p s).relief = s.relief ∧ (endBreak p s).measurement = s.measurement ∧
    (endBreak p s).billing = s.billing ∧ (endBreak p s).now = s.now ∧
    (endBreak p s).freeCount = s.freeCount ∧ (endBreak p s).pending = s.pending ∧
    (endBreak p s).link = s.link := by
  simp only [endBreak]
  repeat' split
  all_goals first | rfl | simp

@[simp] theorem startQualification_keeps (p : Port) (s : State) :
    (startQualification p s).directory = s.directory ∧ (startQualification p s).stations = s.stations ∧
    (startQualification p s).forwarding = s.forwarding ∧ (startQualification p s).buffer = s.buffer ∧
    (startQualification p s).relief = s.relief ∧ (startQualification p s).measurement = s.measurement ∧
    (startQualification p s).billing = s.billing ∧ (startQualification p s).now = s.now ∧
    (startQualification p s).lineOut = s.lineOut ∧ (startQualification p s).freeCount = s.freeCount ∧
    (startQualification p s).pending = s.pending ∧ (startQualification p s).link = s.link := by
  simp only [startQualification]
  first | rfl | simp

@[simp] theorem startErrorWindow_keeps (p : Port) (s : State) :
    (startErrorWindow p s).directory = s.directory ∧ (startErrorWindow p s).stations = s.stations ∧
    (startErrorWindow p s).forwarding = s.forwarding ∧ (startErrorWindow p s).buffer = s.buffer ∧
    (startErrorWindow p s).relief = s.relief ∧ (startErrorWindow p s).measurement = s.measurement ∧
    (startErrorWindow p s).billing = s.billing ∧ (startErrorWindow p s).now = s.now ∧
    (startErrorWindow p s).lineOut = s.lineOut ∧ (startErrorWindow p s).freeCount = s.freeCount ∧
    (startErrorWindow p s).pending = s.pending ∧ (startErrorWindow p s).link = s.link := by
  simp only [startErrorWindow]
  first | rfl | simp

@[simp] theorem enterDown_keeps (p : Port) (s : State) :
    (enterDown p s).directory = s.directory ∧ (enterDown p s).stations = s.stations ∧
    (enterDown p s).forwarding = s.forwarding ∧ (enterDown p s).buffer = s.buffer ∧
    (enterDown p s).relief = s.relief ∧ (enterDown p s).measurement = s.measurement ∧
    (enterDown p s).billing = s.billing ∧ (enterDown p s).now = s.now ∧
    (enterDown p s).freeCount = s.freeCount ∧ (enterDown p s).pending = s.pending ∧
    (enterDown p s).link.rx = s.link.rx ∧ (enterDown p s).link.gap = s.link.gap ∧
    (enterDown p s).link.places = s.link.places ∧ (enterDown p s).link.overflow = s.link.overflow ∧
    (enterDown p s).link.sending = s.link.sending ∧ (enterDown p s).link.noticeCount = s.link.noticeCount ∧
    (enterDown p s).link.mask = s.link.mask ∧ (enterDown p s).link.linkErrors = s.link.linkErrors ∧
    (enterDown p s).link.restartRecord = s.link.restartRecord ∧
    (enterDown p s).link.inRestart = s.link.inRestart ∧
    (enterDown p s).link.restartHanded = s.link.restartHanded ∧
    (enterDown p s).link.restartLineHigh = s.link.restartLineHigh := by
  simp only [enterDown]
  repeat' split
  all_goals first | rfl | simp

@[simp] theorem joinUp_keeps (p : Port) (s : State) :
    (joinUp p s).directory = s.directory ∧ (joinUp p s).stations = s.stations ∧
    (joinUp p s).buffer = s.buffer ∧ (joinUp p s).relief = s.relief ∧ (joinUp p s).ports = s.ports ∧
    (joinUp p s).measurement = s.measurement ∧ (joinUp p s).billing = s.billing ∧
    (joinUp p s).now = s.now ∧ (joinUp p s).lineOut = s.lineOut ∧ (joinUp p s).freeCount = s.freeCount ∧
    (joinUp p s).pending = s.pending ∧ (joinUp p s).link = s.link := by
  simp only [joinUp]
  repeat' split
  all_goals first | rfl | simp

@[simp] theorem leaveUp_keeps (p : Port) (s : State) :
    (leaveUp p s).directory = s.directory ∧ (leaveUp p s).buffer = s.buffer ∧
    (leaveUp p s).relief = s.relief ∧ (leaveUp p s).ports = s.ports ∧
    (leaveUp p s).measurement = s.measurement ∧ (leaveUp p s).billing = s.billing ∧
    (leaveUp p s).now = s.now ∧ (leaveUp p s).lineOut = s.lineOut ∧ (leaveUp p s).freeCount = s.freeCount ∧
    (leaveUp p s).pending = s.pending ∧ (leaveUp p s).link = s.link := by
  simp only [leaveUp]
  repeat' split
  all_goals first | rfl | simp

@[simp] theorem forgetStations_keeps (p : Port) (s : State) :
    (forgetStations p s).directory = s.directory ∧ (forgetStations p s).forwarding = s.forwarding ∧
    (forgetStations p s).buffer = s.buffer ∧ (forgetStations p s).relief = s.relief ∧
    (forgetStations p s).ports = s.ports ∧ (forgetStations p s).measurement = s.measurement ∧
    (forgetStations p s).billing = s.billing ∧ (forgetStations p s).now = s.now ∧
    (forgetStations p s).lineOut = s.lineOut ∧ (forgetStations p s).freeCount = s.freeCount ∧
    (forgetStations p s).pending = s.pending ∧ (forgetStations p s).link = s.link := by
  simp only [forgetStations]
  repeat' split
  all_goals first | rfl | simp

@[simp] theorem enterUp_keeps (p : Port) (s : State) :
    (enterUp p s).directory = s.directory ∧ (enterUp p s).stations = s.stations ∧
    (enterUp p s).buffer = s.buffer ∧ (enterUp p s).relief.settings = s.relief.settings ∧
    (enterUp p s).measurement = s.measurement ∧ (enterUp p s).billing = s.billing ∧
    (enterUp p s).now = s.now ∧ (enterUp p s).lineOut = s.lineOut ∧ (enterUp p s).freeCount = s.freeCount ∧
    (enterUp p s).pending = s.pending ∧ (enterUp p s).link.rx = s.link.rx ∧
    (enterUp p s).link.gap = s.link.gap ∧ (enterUp p s).link.places = s.link.places ∧
    (enterUp p s).link.overflow = s.link.overflow ∧ (enterUp p s).link.sending = s.link.sending ∧
    (enterUp p s).link.noticeCount = s.link.noticeCount ∧ (enterUp p s).link.mask = s.link.mask ∧
    (enterUp p s).link.linkErrors = s.link.linkErrors ∧
    (enterUp p s).link.restartRecord = s.link.restartRecord ∧
    (enterUp p s).link.inRestart = s.link.inRestart ∧
    (enterUp p s).link.restartHanded = s.link.restartHanded ∧
    (enterUp p s).link.restartLineHigh = s.link.restartLineHigh := by
  simp only [enterUp]
  repeat' split
  all_goals first | rfl | simp

@[simp] theorem openCapture_keeps (p : Port) (c : FaultCause) (s : State) :
    (openCapture p c s).directory = s.directory ∧ (openCapture p c s).stations = s.stations ∧
    (openCapture p c s).forwarding = s.forwarding ∧ (openCapture p c s).buffer = s.buffer ∧
    (openCapture p c s).relief = s.relief ∧ (openCapture p c s).measurement = s.measurement ∧
    (openCapture p c s).billing = s.billing ∧ (openCapture p c s).now = s.now ∧
    (openCapture p c s).lineOut = s.lineOut ∧ (openCapture p c s).freeCount = s.freeCount ∧
    (openCapture p c s).pending = s.pending ∧ (openCapture p c s).link = s.link := by
  simp only [openCapture]
  first | rfl | simp

@[simp] theorem countFlap_keeps (p : Port) (s : State) :
    (countFlap p s).directory = s.directory ∧ (countFlap p s).stations = s.stations ∧
    (countFlap p s).forwarding = s.forwarding ∧ (countFlap p s).buffer = s.buffer ∧
    (countFlap p s).relief = s.relief ∧ (countFlap p s).measurement = s.measurement ∧
    (countFlap p s).billing = s.billing ∧ (countFlap p s).now = s.now ∧
    (countFlap p s).lineOut = s.lineOut ∧ (countFlap p s).freeCount = s.freeCount ∧
    (countFlap p s).pending = s.pending ∧ (countFlap p s).link = s.link := by
  simp only [countFlap]
  first | rfl | simp

@[simp] theorem loadHolddown_keeps (p : Port) (b : Bool) (s : State) :
    (loadHolddown p b s).directory = s.directory ∧ (loadHolddown p b s).stations = s.stations ∧
    (loadHolddown p b s).forwarding = s.forwarding ∧ (loadHolddown p b s).buffer = s.buffer ∧
    (loadHolddown p b s).relief = s.relief ∧ (loadHolddown p b s).measurement = s.measurement ∧
    (loadHolddown p b s).billing = s.billing ∧ (loadHolddown p b s).now = s.now ∧
    (loadHolddown p b s).lineOut = s.lineOut ∧ (loadHolddown p b s).freeCount = s.freeCount ∧
    (loadHolddown p b s).pending = s.pending ∧ (loadHolddown p b s).link = s.link := by
  simp only [loadHolddown]
  repeat' split
  all_goals first | rfl | simp

@[simp] theorem stopMonitors_keeps (p : Port) (b : Bool) (s : State) :
    (stopMonitors p b s).directory = s.directory ∧ (stopMonitors p b s).stations = s.stations ∧
    (stopMonitors p b s).forwarding = s.forwarding ∧ (stopMonitors p b s).buffer = s.buffer ∧
    (stopMonitors p b s).relief = s.relief ∧ (stopMonitors p b s).measurement = s.measurement ∧
    (stopMonitors p b s).billing = s.billing ∧ (stopMonitors p b s).now = s.now ∧
    (stopMonitors p b s).lineOut = s.lineOut ∧ (stopMonitors p b s).freeCount = s.freeCount ∧
    (stopMonitors p b s).pending = s.pending ∧ (stopMonitors p b s).link = s.link := by
  simp only [stopMonitors]
  repeat' split
  all_goals first | rfl | simp

@[simp] theorem fenceBuffer_keeps (p : Port) (s : State) :
    (fenceBuffer p s).directory = s.directory ∧ (fenceBuffer p s).stations = s.stations ∧
    (fenceBuffer p s).forwarding = s.forwarding ∧ (fenceBuffer p s).relief.settings = s.relief.settings ∧
    (fenceBuffer p s).measurement = s.measurement ∧ (fenceBuffer p s).now = s.now ∧
    (fenceBuffer p s).freeCount = s.freeCount ∧ (fenceBuffer p s).pending = s.pending ∧
    (fenceBuffer p s).link.rx = s.link.rx ∧ (fenceBuffer p s).link.gap = s.link.gap ∧
    (fenceBuffer p s).link.places = s.link.places ∧ (fenceBuffer p s).link.overflow = s.link.overflow ∧
    (fenceBuffer p s).link.sending = s.link.sending ∧
    (fenceBuffer p s).link.noticeCount = s.link.noticeCount ∧ (fenceBuffer p s).link.mask = s.link.mask ∧
    (fenceBuffer p s).link.linkErrors = s.link.linkErrors ∧
    (fenceBuffer p s).link.restartRecord = s.link.restartRecord ∧
    (fenceBuffer p s).link.inRestart = s.link.inRestart ∧
    (fenceBuffer p s).link.restartHanded = s.link.restartHanded ∧
    (fenceBuffer p s).link.restartLineHigh = s.link.restartLineHigh := by
  simp only [fenceBuffer]
  repeat' split
  all_goals first | rfl | simp

@[simp] theorem fenceLine_keeps (p : Port) (s : State) :
    (fenceLine p s).directory = s.directory ∧ (fenceLine p s).stations = s.stations ∧
    (fenceLine p s).forwarding = s.forwarding ∧ (fenceLine p s).buffer = s.buffer ∧
    (fenceLine p s).relief = s.relief ∧ (fenceLine p s).measurement = s.measurement ∧
    (fenceLine p s).billing = s.billing ∧ (fenceLine p s).now = s.now ∧
    (fenceLine p s).freeCount = s.freeCount ∧ (fenceLine p s).pending = s.pending ∧
    (fenceLine p s).link = s.link := by
  simp only [fenceLine]
  first | rfl | simp

@[simp] theorem fence_keeps (p : Port) (c : FaultCause) (s : State) :
    (fence p c s).directory = s.directory ∧ (fence p c s).relief.settings = s.relief.settings ∧
    (fence p c s).now = s.now ∧ (fence p c s).freeCount = s.freeCount ∧ (fence p c s).pending = s.pending ∧
    (fence p c s).link.rx = s.link.rx ∧ (fence p c s).link.gap = s.link.gap ∧
    (fence p c s).link.places = s.link.places ∧ (fence p c s).link.overflow = s.link.overflow ∧
    (fence p c s).link.sending = s.link.sending ∧ (fence p c s).link.noticeCount = s.link.noticeCount ∧
    (fence p c s).link.mask = s.link.mask ∧ (fence p c s).link.linkErrors = s.link.linkErrors ∧
    (fence p c s).link.restartRecord = s.link.restartRecord ∧
    (fence p c s).link.inRestart = s.link.inRestart ∧
    (fence p c s).link.restartHanded = s.link.restartHanded ∧
    (fence p c s).link.restartLineHigh = s.link.restartLineHigh := by
  simp only [fence]
  repeat' split
  all_goals first | rfl | simp

@[simp] theorem errorEvent_keeps (p : Port) (s : State) :
    (errorEvent p s).directory = s.directory ∧ (errorEvent p s).relief.settings = s.relief.settings ∧
    (errorEvent p s).now = s.now ∧ (errorEvent p s).freeCount = s.freeCount ∧
    (errorEvent p s).pending = s.pending ∧ (errorEvent p s).link.rx = s.link.rx ∧
    (errorEvent p s).link.gap = s.link.gap ∧ (errorEvent p s).link.places = s.link.places ∧
    (errorEvent p s).link.overflow = s.link.overflow ∧ (errorEvent p s).link.sending = s.link.sending ∧
    (errorEvent p s).link.noticeCount = s.link.noticeCount ∧ (errorEvent p s).link.mask = s.link.mask ∧
    (errorEvent p s).link.linkErrors = s.link.linkErrors ∧
    (errorEvent p s).link.restartRecord = s.link.restartRecord ∧
    (errorEvent p s).link.inRestart = s.link.inRestart ∧
    (errorEvent p s).link.restartHanded = s.link.restartHanded ∧
    (errorEvent p s).link.restartLineHigh = s.link.restartLineHigh := by
  simp only [errorEvent]
  repeat' split
  all_goals first | rfl | simp

@[simp] theorem enablePort_keeps (p : Port) (c : PortConfig) (s : State) :
    (enablePort p c s).directory = s.directory ∧ (enablePort p c s).stations = s.stations ∧
    (enablePort p c s).forwarding = s.forwarding ∧ (enablePort p c s).buffer = s.buffer ∧
    (enablePort p c s).relief = s.relief ∧ (enablePort p c s).measurement = s.measurement ∧
    (enablePort p c s).billing = s.billing ∧ (enablePort p c s).now = s.now ∧
    (enablePort p c s).freeCount = s.freeCount ∧ (enablePort p c s).pending = s.pending ∧
    (enablePort p c s).link.rx = s.link.rx ∧ (enablePort p c s).link.gap = s.link.gap ∧
    (enablePort p c s).link.places = s.link.places ∧ (enablePort p c s).link.overflow = s.link.overflow ∧
    (enablePort p c s).link.sending = s.link.sending ∧
    (enablePort p c s).link.noticeCount = s.link.noticeCount ∧ (enablePort p c s).link.mask = s.link.mask ∧
    (enablePort p c s).link.linkErrors = s.link.linkErrors ∧
    (enablePort p c s).link.restartRecord = s.link.restartRecord ∧
    (enablePort p c s).link.inRestart = s.link.inRestart ∧
    (enablePort p c s).link.restartHanded = s.link.restartHanded ∧
    (enablePort p c s).link.restartLineHigh = s.link.restartLineHigh := by
  simp only [enablePort]
  repeat' split
  all_goals first | rfl | simp

@[simp] theorem resetMonitors_keeps (p : Port) (s : State) :
    (resetMonitors p s).directory = s.directory ∧ (resetMonitors p s).stations = s.stations ∧
    (resetMonitors p s).forwarding = s.forwarding ∧ (resetMonitors p s).buffer = s.buffer ∧
    (resetMonitors p s).relief = s.relief ∧ (resetMonitors p s).measurement = s.measurement ∧
    (resetMonitors p s).billing = s.billing ∧ (resetMonitors p s).now = s.now ∧
    (resetMonitors p s).lineOut = s.lineOut ∧ (resetMonitors p s).freeCount = s.freeCount ∧
    (resetMonitors p s).pending = s.pending ∧ (resetMonitors p s).link = s.link := by
  simp only [resetMonitors]
  first | rfl | simp

@[simp] theorem disablePort_keeps (p : Port) (s : State) :
    (disablePort p s).directory = s.directory ∧ (disablePort p s).relief.settings = s.relief.settings ∧
    (disablePort p s).now = s.now ∧ (disablePort p s).freeCount = s.freeCount ∧
    (disablePort p s).pending = s.pending ∧ (disablePort p s).link.rx = s.link.rx ∧
    (disablePort p s).link.gap = s.link.gap ∧ (disablePort p s).link.places = s.link.places ∧
    (disablePort p s).link.overflow = s.link.overflow ∧ (disablePort p s).link.sending = s.link.sending ∧
    (disablePort p s).link.noticeCount = s.link.noticeCount ∧ (disablePort p s).link.mask = s.link.mask ∧
    (disablePort p s).link.linkErrors = s.link.linkErrors ∧
    (disablePort p s).link.restartRecord = s.link.restartRecord ∧
    (disablePort p s).link.inRestart = s.link.inRestart ∧
    (disablePort p s).link.restartHanded = s.link.restartHanded ∧
    (disablePort p s).link.restartLineHigh = s.link.restartLineHigh := by
  simp only [disablePort]
  first | rfl | simp

@[simp] theorem countFiltered_keeps (p : Port) (s : State) :
    (countFiltered p s).directory = s.directory ∧ (countFiltered p s).stations = s.stations ∧
    (countFiltered p s).buffer = s.buffer ∧ (countFiltered p s).relief = s.relief ∧
    (countFiltered p s).ports = s.ports ∧ (countFiltered p s).measurement = s.measurement ∧
    (countFiltered p s).billing = s.billing ∧ (countFiltered p s).now = s.now ∧
    (countFiltered p s).lineOut = s.lineOut ∧ (countFiltered p s).freeCount = s.freeCount ∧
    (countFiltered p s).pending = s.pending ∧ (countFiltered p s).link = s.link := by
  simp only [countFiltered]
  first | rfl | simp

@[simp] theorem refusePolicy_keeps (t : TenantId) (p : Port) (n : Nat) (s : State) :
    (refusePolicy t p n s).directory = s.directory ∧ (refusePolicy t p n s).stations = s.stations ∧
    (refusePolicy t p n s).buffer = s.buffer ∧ (refusePolicy t p n s).relief = s.relief ∧
    (refusePolicy t p n s).ports = s.ports ∧ (refusePolicy t p n s).measurement = s.measurement ∧
    (refusePolicy t p n s).now = s.now ∧ (refusePolicy t p n s).lineOut = s.lineOut ∧
    (refusePolicy t p n s).freeCount = s.freeCount ∧ (refusePolicy t p n s).pending = s.pending ∧
    (refusePolicy t p n s).link = s.link := by
  simp only [refusePolicy]
  first | rfl | simp

@[simp] theorem refuseUnavailable_keeps (t : TenantId) (p : Port) (n : Nat) (s : State) :
    (refuseUnavailable t p n s).directory = s.directory ∧
    (refuseUnavailable t p n s).stations = s.stations ∧ (refuseUnavailable t p n s).buffer = s.buffer ∧
    (refuseUnavailable t p n s).relief = s.relief ∧ (refuseUnavailable t p n s).ports = s.ports ∧
    (refuseUnavailable t p n s).measurement = s.measurement ∧ (refuseUnavailable t p n s).now = s.now ∧
    (refuseUnavailable t p n s).lineOut = s.lineOut ∧ (refuseUnavailable t p n s).freeCount = s.freeCount ∧
    (refuseUnavailable t p n s).pending = s.pending ∧ (refuseUnavailable t p n s).link = s.link := by
  simp only [refuseUnavailable]
  first | rfl | simp

@[simp] theorem learn_keeps (g : SegmentId) (a : StationAddr) (x : Target) (t : TenantId) (s : State) :
    (learn g a x t s).directory = s.directory ∧ (learn g a x t s).forwarding = s.forwarding ∧
    (learn g a x t s).buffer = s.buffer ∧ (learn g a x t s).relief = s.relief ∧
    (learn g a x t s).ports = s.ports ∧ (learn g a x t s).measurement = s.measurement ∧
    (learn g a x t s).billing = s.billing ∧ (learn g a x t s).now = s.now ∧
    (learn g a x t s).lineOut = s.lineOut ∧ (learn g a x t s).freeCount = s.freeCount ∧
    (learn g a x t s).pending = s.pending ∧ (learn g a x t s).link.rx = s.link.rx ∧
    (learn g a x t s).link.gap = s.link.gap ∧ (learn g a x t s).link.places = s.link.places ∧
    (learn g a x t s).link.overflow = s.link.overflow ∧ (learn g a x t s).link.sending = s.link.sending ∧
    (learn g a x t s).link.noticeCount = s.link.noticeCount ∧ (learn g a x t s).link.mask = s.link.mask ∧
    (learn g a x t s).link.linkErrors = s.link.linkErrors ∧
    (learn g a x t s).link.restartRecord = s.link.restartRecord ∧
    (learn g a x t s).link.inRestart = s.link.inRestart ∧
    (learn g a x t s).link.restartHanded = s.link.restartHanded ∧
    (learn g a x t s).link.restartLineHigh = s.link.restartLineHigh := by
  simp only [learn]
  repeat' split
  all_goals first | rfl | simp

@[simp] theorem moveStation_keeps (g : SegmentId) (a : StationAddr) (x : Target) (s : State) :
    (moveStation g a x s).directory = s.directory ∧ (moveStation g a x s).forwarding = s.forwarding ∧
    (moveStation g a x s).buffer = s.buffer ∧ (moveStation g a x s).relief = s.relief ∧
    (moveStation g a x s).ports = s.ports ∧ (moveStation g a x s).measurement = s.measurement ∧
    (moveStation g a x s).billing = s.billing ∧ (moveStation g a x s).now = s.now ∧
    (moveStation g a x s).lineOut = s.lineOut ∧ (moveStation g a x s).freeCount = s.freeCount ∧
    (moveStation g a x s).pending = s.pending ∧ (moveStation g a x s).link.rx = s.link.rx ∧
    (moveStation g a x s).link.gap = s.link.gap ∧ (moveStation g a x s).link.places = s.link.places ∧
    (moveStation g a x s).link.overflow = s.link.overflow ∧
    (moveStation g a x s).link.sending = s.link.sending ∧
    (moveStation g a x s).link.noticeCount = s.link.noticeCount ∧
    (moveStation g a x s).link.mask = s.link.mask ∧
    (moveStation g a x s).link.linkErrors = s.link.linkErrors ∧
    (moveStation g a x s).link.restartRecord = s.link.restartRecord ∧
    (moveStation g a x s).link.inRestart = s.link.inRestart ∧
    (moveStation g a x s).link.restartHanded = s.link.restartHanded ∧
    (moveStation g a x s).link.restartLineHigh = s.link.restartLineHigh := by
  simp only [moveStation]
  first | rfl | simp

@[simp] theorem sourceCheck_keeps (c : Classified) (p : Port) (a : StationAddr) (s : State) :
    (sourceCheck c p a s).1.directory = s.directory ∧ (sourceCheck c p a s).1.forwarding = s.forwarding ∧
    (sourceCheck c p a s).1.buffer = s.buffer ∧ (sourceCheck c p a s).1.relief = s.relief ∧
    (sourceCheck c p a s).1.measurement = s.measurement ∧ (sourceCheck c p a s).1.billing = s.billing ∧
    (sourceCheck c p a s).1.now = s.now ∧ (sourceCheck c p a s).1.lineOut = s.lineOut ∧
    (sourceCheck c p a s).1.freeCount = s.freeCount ∧ (sourceCheck c p a s).1.pending = s.pending ∧
    (sourceCheck c p a s).1.link.rx = s.link.rx ∧ (sourceCheck c p a s).1.link.gap = s.link.gap ∧
    (sourceCheck c p a s).1.link.places = s.link.places ∧
    (sourceCheck c p a s).1.link.overflow = s.link.overflow ∧
    (sourceCheck c p a s).1.link.sending = s.link.sending ∧
    (sourceCheck c p a s).1.link.noticeCount = s.link.noticeCount ∧
    (sourceCheck c p a s).1.link.mask = s.link.mask ∧
    (sourceCheck c p a s).1.link.linkErrors = s.link.linkErrors ∧
    (sourceCheck c p a s).1.link.restartRecord = s.link.restartRecord ∧
    (sourceCheck c p a s).1.link.inRestart = s.link.inRestart ∧
    (sourceCheck c p a s).1.link.restartHanded = s.link.restartHanded ∧
    (sourceCheck c p a s).1.link.restartLineHigh = s.link.restartLineHigh := by
  simp only [sourceCheck]
  repeat' split
  all_goals first | rfl | simp

@[simp] theorem reportRefusals_keeps (t : TenantId) (p : Port) (n : Nat) (rs : List RefusalReason) (s : State) :
    (reportRefusals t p n rs s).directory = s.directory ∧
    (reportRefusals t p n rs s).stations = s.stations ∧ (reportRefusals t p n rs s).buffer = s.buffer ∧
    (reportRefusals t p n rs s).relief = s.relief ∧ (reportRefusals t p n rs s).ports = s.ports ∧
    (reportRefusals t p n rs s).measurement = s.measurement ∧ (reportRefusals t p n rs s).now = s.now ∧
    (reportRefusals t p n rs s).lineOut = s.lineOut ∧ (reportRefusals t p n rs s).freeCount = s.freeCount ∧
    (reportRefusals t p n rs s).pending = s.pending ∧ (reportRefusals t p n rs s).link = s.link := by
  simp only [reportRefusals]
  refine ⟨?_, ?_, ?_, ?_, ?_, ?_, ?_, ?_, ?_, ?_, ?_⟩ <;>
    exact foldl_keeps (fun s r => by cases r <;> simp) _ _

@[simp] theorem forward_keeps (c : Classified) (p : Port) (f : DataFrame) (s : State) :
    (forward c p f s).directory = s.directory ∧ (forward c p f s).stations = s.stations ∧
    (forward c p f s).relief.settings = s.relief.settings ∧ (forward c p f s).ports = s.ports ∧
    (forward c p f s).measurement = s.measurement ∧ (forward c p f s).now = s.now ∧
    (forward c p f s).freeCount = s.freeCount ∧ (forward c p f s).pending = s.pending ∧
    (forward c p f s).link.rx = s.link.rx ∧ (forward c p f s).link.gap = s.link.gap ∧
    (forward c p f s).link.places = s.link.places ∧ (forward c p f s).link.overflow = s.link.overflow ∧
    (forward c p f s).link.sending = s.link.sending ∧
    (forward c p f s).link.noticeCount = s.link.noticeCount ∧ (forward c p f s).link.mask = s.link.mask ∧
    (forward c p f s).link.linkErrors = s.link.linkErrors ∧
    (forward c p f s).link.restartRecord = s.link.restartRecord ∧
    (forward c p f s).link.inRestart = s.link.inRestart ∧
    (forward c p f s).link.restartHanded = s.link.restartHanded ∧
    (forward c p f s).link.restartLineHigh = s.link.restartLineHigh := by
  simp only [forward]
  repeat' split
  all_goals first | rfl | simp

@[simp] theorem decideFrame_keeps (p : Port) (f : DataFrame) (s : State) :
    (decideFrame p f s).directory = s.directory ∧ (decideFrame p f s).relief.settings = s.relief.settings ∧
    (decideFrame p f s).measurement = s.measurement ∧ (decideFrame p f s).now = s.now ∧
    (decideFrame p f s).freeCount = s.freeCount ∧ (decideFrame p f s).pending = s.pending ∧
    (decideFrame p f s).link.rx = s.link.rx ∧ (decideFrame p f s).link.gap = s.link.gap ∧
    (decideFrame p f s).link.places = s.link.places ∧ (decideFrame p f s).link.overflow = s.link.overflow ∧
    (decideFrame p f s).link.sending = s.link.sending ∧
    (decideFrame p f s).link.noticeCount = s.link.noticeCount ∧
    (decideFrame p f s).link.mask = s.link.mask ∧ (decideFrame p f s).link.linkErrors = s.link.linkErrors ∧
    (decideFrame p f s).link.restartRecord = s.link.restartRecord ∧
    (decideFrame p f s).link.inRestart = s.link.inRestart ∧
    (decideFrame p f s).link.restartHanded = s.link.restartHanded ∧
    (decideFrame p f s).link.restartLineHigh = s.link.restartLineHigh := by
  simp only [decideFrame]
  repeat' split
  all_goals first | rfl | simp

@[simp] theorem pinStation_keeps (g : SegmentId) (a : StationAddr) (x : Target) (t : TenantId) (s : State) :
    (pinStation g a x t s).directory = s.directory ∧ (pinStation g a x t s).forwarding = s.forwarding ∧
    (pinStation g a x t s).buffer = s.buffer ∧ (pinStation g a x t s).relief = s.relief ∧
    (pinStation g a x t s).ports = s.ports ∧ (pinStation g a x t s).measurement = s.measurement ∧
    (pinStation g a x t s).billing = s.billing ∧ (pinStation g a x t s).now = s.now ∧
    (pinStation g a x t s).lineOut = s.lineOut ∧ (pinStation g a x t s).freeCount = s.freeCount ∧
    (pinStation g a x t s).pending = s.pending ∧ (pinStation g a x t s).link = s.link := by
  simp only [pinStation]
  repeat' split
  all_goals first | rfl | simp

@[simp] theorem setSweepPeriod_keeps (n : Nat) (s : State) :
    (setSweepPeriod n s).directory = s.directory ∧ (setSweepPeriod n s).forwarding = s.forwarding ∧
    (setSweepPeriod n s).buffer = s.buffer ∧ (setSweepPeriod n s).relief = s.relief ∧
    (setSweepPeriod n s).ports = s.ports ∧ (setSweepPeriod n s).measurement = s.measurement ∧
    (setSweepPeriod n s).billing = s.billing ∧ (setSweepPeriod n s).now = s.now ∧
    (setSweepPeriod n s).lineOut = s.lineOut ∧ (setSweepPeriod n s).freeCount = s.freeCount ∧
    (setSweepPeriod n s).pending = s.pending ∧ (setSweepPeriod n s).link = s.link := by
  simp only [setSweepPeriod]
  first | rfl | simp

@[simp] theorem stationAdd_keeps (body : List Byte) (s : State) :
    (stationAdd body s).1.directory = s.directory ∧ (stationAdd body s).1.forwarding = s.forwarding ∧
    (stationAdd body s).1.buffer = s.buffer ∧ (stationAdd body s).1.relief = s.relief ∧
    (stationAdd body s).1.ports = s.ports ∧ (stationAdd body s).1.measurement = s.measurement ∧
    (stationAdd body s).1.billing = s.billing ∧ (stationAdd body s).1.now = s.now ∧
    (stationAdd body s).1.lineOut = s.lineOut ∧ (stationAdd body s).1.freeCount = s.freeCount ∧
    (stationAdd body s).1.pending = s.pending ∧ (stationAdd body s).1.link = s.link := by
  simp only [stationAdd]
  repeat' split
  all_goals first | rfl | simp

@[simp] theorem stationRemove_keeps (body : List Byte) (s : State) :
    (stationRemove body s).1.directory = s.directory ∧ (stationRemove body s).1.forwarding = s.forwarding ∧
    (stationRemove body s).1.buffer = s.buffer ∧ (stationRemove body s).1.relief = s.relief ∧
    (stationRemove body s).1.ports = s.ports ∧ (stationRemove body s).1.measurement = s.measurement ∧
    (stationRemove body s).1.billing = s.billing ∧ (stationRemove body s).1.now = s.now ∧
    (stationRemove body s).1.lineOut = s.lineOut ∧ (stationRemove body s).1.freeCount = s.freeCount ∧
    (stationRemove body s).1.pending = s.pending ∧ (stationRemove body s).1.link = s.link := by
  simp only [stationRemove]
  repeat' split
  all_goals first | rfl | simp

@[simp] theorem stationFlush_keeps (body : List Byte) (s : State) :
    (stationFlush body s).1.directory = s.directory ∧ (stationFlush body s).1.forwarding = s.forwarding ∧
    (stationFlush body s).1.buffer = s.buffer ∧ (stationFlush body s).1.relief = s.relief ∧
    (stationFlush body s).1.ports = s.ports ∧ (stationFlush body s).1.measurement = s.measurement ∧
    (stationFlush body s).1.billing = s.billing ∧ (stationFlush body s).1.now = s.now ∧
    (stationFlush body s).1.lineOut = s.lineOut ∧ (stationFlush body s).1.freeCount = s.freeCount ∧
    (stationFlush body s).1.pending = s.pending ∧ (stationFlush body s).1.link = s.link := by
  simp only [stationFlush]
  repeat' split
  all_goals first | rfl | simp

@[simp] theorem stationStatus_keeps (body : List Byte) (s : State) :
    (stationStatus body s).1.directory = s.directory ∧ (stationStatus body s).1.forwarding = s.forwarding ∧
    (stationStatus body s).1.buffer = s.buffer ∧ (stationStatus body s).1.relief = s.relief ∧
    (stationStatus body s).1.ports = s.ports ∧ (stationStatus body s).1.measurement = s.measurement ∧
    (stationStatus body s).1.billing = s.billing ∧ (stationStatus body s).1.now = s.now ∧
    (stationStatus body s).1.lineOut = s.lineOut ∧ (stationStatus body s).1.freeCount = s.freeCount ∧
    (stationStatus body s).1.pending = s.pending ∧ (stationStatus body s).1.link = s.link := by
  simp only [stationStatus]
  repeat' split
  all_goals first | rfl | simp

@[simp] theorem stationFind_keeps (body : List Byte) (s : State) :
    (stationFind body s).1.directory = s.directory ∧ (stationFind body s).1.stations = s.stations ∧
    (stationFind body s).1.forwarding = s.forwarding ∧ (stationFind body s).1.buffer = s.buffer ∧
    (stationFind body s).1.relief = s.relief ∧ (stationFind body s).1.ports = s.ports ∧
    (stationFind body s).1.measurement = s.measurement ∧ (stationFind body s).1.billing = s.billing ∧
    (stationFind body s).1.now = s.now ∧ (stationFind body s).1.lineOut = s.lineOut ∧
    (stationFind body s).1.freeCount = s.freeCount ∧ (stationFind body s).1.pending = s.pending ∧
    (stationFind body s).1.link = s.link := by
  simp only [stationFind]
  repeat' split
  all_goals first | rfl | simp

@[simp] theorem sweep_keeps (s : State) :
    (sweep s).directory = s.directory ∧ (sweep s).forwarding = s.forwarding ∧ (sweep s).buffer = s.buffer ∧
    (sweep s).relief = s.relief ∧ (sweep s).ports = s.ports ∧ (sweep s).measurement = s.measurement ∧
    (sweep s).billing = s.billing ∧ (sweep s).now = s.now ∧ (sweep s).lineOut = s.lineOut ∧
    (sweep s).freeCount = s.freeCount ∧ (sweep s).pending = s.pending ∧ (sweep s).link = s.link := by
  simp only [sweep]
  first | rfl | simp

@[simp] theorem openMetersFor_keeps (t : TenantId) (s : State) :
    (openMetersFor t s).directory = s.directory ∧ (openMetersFor t s).stations = s.stations ∧
    (openMetersFor t s).forwarding = s.forwarding ∧ (openMetersFor t s).buffer = s.buffer ∧
    (openMetersFor t s).relief = s.relief ∧ (openMetersFor t s).ports = s.ports ∧
    (openMetersFor t s).measurement = s.measurement ∧ (openMetersFor t s).now = s.now ∧
    (openMetersFor t s).lineOut = s.lineOut ∧ (openMetersFor t s).freeCount = s.freeCount ∧
    (openMetersFor t s).pending = s.pending ∧ (openMetersFor t s).link = s.link := by
  simp only [openMetersFor]
  repeat' split
  all_goals first | rfl | simp

@[simp] theorem applyStagedBindings_keeps (s : State) :
    (applyStagedBindings s).stations = s.stations ∧ (applyStagedBindings s).forwarding = s.forwarding ∧
    (applyStagedBindings s).buffer = s.buffer ∧ (applyStagedBindings s).relief = s.relief ∧
    (applyStagedBindings s).ports = s.ports ∧ (applyStagedBindings s).measurement = s.measurement ∧
    (applyStagedBindings s).billing = s.billing ∧ (applyStagedBindings s).now = s.now ∧
    (applyStagedBindings s).lineOut = s.lineOut ∧ (applyStagedBindings s).freeCount = s.freeCount ∧
    (applyStagedBindings s).pending = s.pending ∧ (applyStagedBindings s).link = s.link := by
  simp only [applyStagedBindings]
  first | rfl | simp

@[simp] theorem applyStagedSettings_keeps (s : State) :
    (applyStagedSettings s).directory = s.directory ∧ (applyStagedSettings s).stations = s.stations ∧
    (applyStagedSettings s).forwarding = s.forwarding ∧ (applyStagedSettings s).buffer = s.buffer ∧
    (applyStagedSettings s).relief = s.relief ∧ (applyStagedSettings s).ports = s.ports ∧
    (applyStagedSettings s).measurement = s.measurement ∧ (applyStagedSettings s).now = s.now ∧
    (applyStagedSettings s).lineOut = s.lineOut ∧ (applyStagedSettings s).freeCount = s.freeCount ∧
    (applyStagedSettings s).pending = s.pending ∧ (applyStagedSettings s).link = s.link := by
  simp only [applyStagedSettings]
  first | rfl | simp

@[simp] theorem openEpoch_keeps (s : State) :
    (openEpoch s).directory = s.directory ∧ (openEpoch s).stations = s.stations ∧
    (openEpoch s).forwarding = s.forwarding ∧ (openEpoch s).buffer = s.buffer ∧
    (openEpoch s).relief = s.relief ∧ (openEpoch s).ports = s.ports ∧
    (openEpoch s).measurement = s.measurement ∧ (openEpoch s).now = s.now ∧
    (openEpoch s).lineOut = s.lineOut ∧ (openEpoch s).freeCount = s.freeCount ∧
    (openEpoch s).pending = s.pending ∧ (openEpoch s).link = s.link := by
  simp only [openEpoch]
  first | rfl | simp

@[simp] theorem stopBilling_keeps (s : State) :
    (stopBilling s).directory = s.directory ∧ (stopBilling s).stations = s.stations ∧
    (stopBilling s).forwarding = s.forwarding ∧ (stopBilling s).buffer = s.buffer ∧
    (stopBilling s).relief = s.relief ∧ (stopBilling s).ports = s.ports ∧
    (stopBilling s).measurement = s.measurement ∧ (stopBilling s).now = s.now ∧
    (stopBilling s).lineOut = s.lineOut ∧ (stopBilling s).freeCount = s.freeCount ∧
    (stopBilling s).pending = s.pending ∧ (stopBilling s).link = s.link := by
  simp only [stopBilling]
  first | rfl | simp

@[simp] theorem closeEpoch_keeps (b : Bool) (s : State) :
    (closeEpoch b s).stations = s.stations ∧ (closeEpoch b s).forwarding = s.forwarding ∧
    (closeEpoch b s).buffer = s.buffer ∧ (closeEpoch b s).relief = s.relief ∧
    (closeEpoch b s).ports = s.ports ∧ (closeEpoch b s).measurement = s.measurement ∧
    (closeEpoch b s).now = s.now ∧ (closeEpoch b s).lineOut = s.lineOut ∧
    (closeEpoch b s).freeCount = s.freeCount ∧ (closeEpoch b s).pending = s.pending ∧
    (closeEpoch b s).link.rx = s.link.rx ∧ (closeEpoch b s).link.gap = s.link.gap ∧
    (closeEpoch b s).link.places = s.link.places ∧ (closeEpoch b s).link.overflow = s.link.overflow ∧
    (closeEpoch b s).link.sending = s.link.sending ∧
    (closeEpoch b s).link.noticeCount = s.link.noticeCount ∧ (closeEpoch b s).link.mask = s.link.mask ∧
    (closeEpoch b s).link.linkErrors = s.link.linkErrors ∧
    (closeEpoch b s).link.restartRecord = s.link.restartRecord ∧
    (closeEpoch b s).link.inRestart = s.link.inRestart ∧
    (closeEpoch b s).link.restartHanded = s.link.restartHanded ∧
    (closeEpoch b s).link.restartLineHigh = s.link.restartLineHigh := by
  simp only [closeEpoch]
  repeat' split
  all_goals first | rfl | simp

@[simp] theorem goOverdue_keeps (s : State) :
    (goOverdue s).directory = s.directory ∧ (goOverdue s).stations = s.stations ∧
    (goOverdue s).forwarding = s.forwarding ∧ (goOverdue s).buffer = s.buffer ∧
    (goOverdue s).relief = s.relief ∧ (goOverdue s).ports = s.ports ∧
    (goOverdue s).measurement = s.measurement ∧ (goOverdue s).now = s.now ∧
    (goOverdue s).lineOut = s.lineOut ∧ (goOverdue s).freeCount = s.freeCount ∧
    (goOverdue s).pending = s.pending ∧ (goOverdue s).link.rx = s.link.rx ∧
    (goOverdue s).link.gap = s.link.gap ∧ (goOverdue s).link.places = s.link.places ∧
    (goOverdue s).link.overflow = s.link.overflow ∧ (goOverdue s).link.sending = s.link.sending ∧
    (goOverdue s).link.noticeCount = s.link.noticeCount ∧ (goOverdue s).link.mask = s.link.mask ∧
    (goOverdue s).link.linkErrors = s.link.linkErrors ∧
    (goOverdue s).link.restartRecord = s.link.restartRecord ∧
    (goOverdue s).link.inRestart = s.link.inRestart ∧
    (goOverdue s).link.restartHanded = s.link.restartHanded ∧
    (goOverdue s).link.restartLineHigh = s.link.restartLineHigh := by
  simp only [goOverdue]
  first | rfl | simp

@[simp] theorem expireEpoch_keeps (s : State) :
    (expireEpoch s).stations = s.stations ∧ (expireEpoch s).forwarding = s.forwarding ∧
    (expireEpoch s).buffer = s.buffer ∧ (expireEpoch s).relief = s.relief ∧
    (expireEpoch s).ports = s.ports ∧ (expireEpoch s).measurement = s.measurement ∧
    (expireEpoch s).now = s.now ∧ (expireEpoch s).lineOut = s.lineOut ∧
    (expireEpoch s).freeCount = s.freeCount ∧ (expireEpoch s).pending = s.pending ∧
    (expireEpoch s).link.rx = s.link.rx ∧ (expireEpoch s).link.gap = s.link.gap ∧
    (expireEpoch s).link.places = s.link.places ∧ (expireEpoch s).link.overflow = s.link.overflow ∧
    (expireEpoch s).link.sending = s.link.sending ∧ (expireEpoch s).link.noticeCount = s.link.noticeCount ∧
    (expireEpoch s).link.mask = s.link.mask ∧ (expireEpoch s).link.linkErrors = s.link.linkErrors ∧
    (expireEpoch s).link.restartRecord = s.link.restartRecord ∧
    (expireEpoch s).link.inRestart = s.link.inRestart ∧
    (expireEpoch s).link.restartHanded = s.link.restartHanded ∧
    (expireEpoch s).link.restartLineHigh = s.link.restartLineHigh := by
  simp only [expireEpoch]
  repeat' split
  all_goals first | rfl | simp

@[simp] theorem sampleCells_keeps (s : State) :
    (sampleCells s).directory = s.directory ∧ (sampleCells s).stations = s.stations ∧
    (sampleCells s).forwarding = s.forwarding ∧ (sampleCells s).buffer = s.buffer ∧
    (sampleCells s).relief = s.relief ∧ (sampleCells s).ports = s.ports ∧
    (sampleCells s).measurement = s.measurement ∧ (sampleCells s).now = s.now ∧
    (sampleCells s).lineOut = s.lineOut ∧ (sampleCells s).freeCount = s.freeCount ∧
    (sampleCells s).pending = s.pending ∧ (sampleCells s).link = s.link := by
  simp only [sampleCells]
  exact ⟨foldl_keeps (g := fun t : State => t.directory) (fun t a => by simp) _ _,
    foldl_keeps (g := fun t : State => t.stations) (fun t a => by simp) _ _,
    foldl_keeps (g := fun t : State => t.forwarding) (fun t a => by simp) _ _,
    foldl_keeps (g := fun t : State => t.buffer) (fun t a => by simp) _ _,
    foldl_keeps (g := fun t : State => t.relief) (fun t a => by simp) _ _,
    foldl_keeps (g := fun t : State => t.ports) (fun t a => by simp) _ _,
    foldl_keeps (g := fun t : State => t.measurement) (fun t a => by simp) _ _,
    foldl_keeps (g := fun t : State => t.now) (fun t a => by simp) _ _,
    foldl_keeps (g := fun t : State => t.lineOut) (fun t a => by simp) _ _,
    foldl_keeps (g := fun t : State => t.freeCount) (fun t a => by simp) _ _,
    foldl_keeps (g := fun t : State => t.pending) (fun t a => by simp) _ _,
    foldl_keeps (g := fun t : State => t.link) (fun t a => by simp) _ _⟩

@[simp] theorem epochTickEvent_keeps (s : State) :
    (epochTickEvent s).stations = s.stations ∧ (epochTickEvent s).forwarding = s.forwarding ∧
    (epochTickEvent s).buffer = s.buffer ∧ (epochTickEvent s).relief = s.relief ∧
    (epochTickEvent s).ports = s.ports ∧ (epochTickEvent s).measurement = s.measurement ∧
    (epochTickEvent s).now = s.now ∧ (epochTickEvent s).lineOut = s.lineOut ∧
    (epochTickEvent s).freeCount = s.freeCount ∧ (epochTickEvent s).pending = s.pending ∧
    (epochTickEvent s).link.rx = s.link.rx ∧ (epochTickEvent s).link.gap = s.link.gap ∧
    (epochTickEvent s).link.places = s.link.places ∧ (epochTickEvent s).link.overflow = s.link.overflow ∧
    (epochTickEvent s).link.sending = s.link.sending ∧
    (epochTickEvent s).link.noticeCount = s.link.noticeCount ∧ (epochTickEvent s).link.mask = s.link.mask ∧
    (epochTickEvent s).link.linkErrors = s.link.linkErrors ∧
    (epochTickEvent s).link.restartRecord = s.link.restartRecord ∧
    (epochTickEvent s).link.inRestart = s.link.inRestart ∧
    (epochTickEvent s).link.restartHanded = s.link.restartHanded ∧
    (epochTickEvent s).link.restartLineHigh = s.link.restartLineHigh := by
  simp only [epochTickEvent]
  repeat' split
  all_goals first | rfl | simp

@[simp] theorem applySettings_keeps (x : TickSelect) (n : Nat) (s : State) :
    (applySettings x n s).directory = s.directory ∧ (applySettings x n s).stations = s.stations ∧
    (applySettings x n s).forwarding = s.forwarding ∧ (applySettings x n s).buffer = s.buffer ∧
    (applySettings x n s).relief = s.relief ∧ (applySettings x n s).ports = s.ports ∧
    (applySettings x n s).measurement = s.measurement ∧ (applySettings x n s).now = s.now ∧
    (applySettings x n s).lineOut = s.lineOut ∧ (applySettings x n s).freeCount = s.freeCount ∧
    (applySettings x n s).pending = s.pending ∧ (applySettings x n s).link = s.link := by
  simp only [applySettings]
  first | rfl | simp

@[simp] theorem billStart_keeps (body : List Byte) (s : State) :
    (billStart body s).1.directory = s.directory ∧ (billStart body s).1.stations = s.stations ∧
    (billStart body s).1.forwarding = s.forwarding ∧ (billStart body s).1.buffer = s.buffer ∧
    (billStart body s).1.relief = s.relief ∧ (billStart body s).1.ports = s.ports ∧
    (billStart body s).1.measurement = s.measurement ∧ (billStart body s).1.now = s.now ∧
    (billStart body s).1.lineOut = s.lineOut ∧ (billStart body s).1.freeCount = s.freeCount ∧
    (billStart body s).1.pending = s.pending ∧ (billStart body s).1.link = s.link := by
  simp only [billStart]
  repeat' split
  all_goals first | rfl | simp

@[simp] theorem billHold_keeps (body : List Byte) (s : State) :
    (billHold body s).1.directory = s.directory ∧ (billHold body s).1.stations = s.stations ∧
    (billHold body s).1.forwarding = s.forwarding ∧ (billHold body s).1.buffer = s.buffer ∧
    (billHold body s).1.relief = s.relief ∧ (billHold body s).1.ports = s.ports ∧
    (billHold body s).1.measurement = s.measurement ∧ (billHold body s).1.now = s.now ∧
    (billHold body s).1.lineOut = s.lineOut ∧ (billHold body s).1.freeCount = s.freeCount ∧
    (billHold body s).1.pending = s.pending ∧ (billHold body s).1.link = s.link := by
  simp only [billHold]
  repeat' split
  all_goals first | rfl | simp

@[simp] theorem billResume_keeps (body : List Byte) (s : State) :
    (billResume body s).1.directory = s.directory ∧ (billResume body s).1.stations = s.stations ∧
    (billResume body s).1.forwarding = s.forwarding ∧ (billResume body s).1.buffer = s.buffer ∧
    (billResume body s).1.relief = s.relief ∧ (billResume body s).1.ports = s.ports ∧
    (billResume body s).1.measurement = s.measurement ∧ (billResume body s).1.now = s.now ∧
    (billResume body s).1.lineOut = s.lineOut ∧ (billResume body s).1.freeCount = s.freeCount ∧
    (billResume body s).1.pending = s.pending ∧ (billResume body s).1.link = s.link := by
  simp only [billResume]
  repeat' split
  all_goals first | rfl | simp

@[simp] theorem billSet_keeps (body : List Byte) (s : State) :
    (billSet body s).1.directory = s.directory ∧ (billSet body s).1.stations = s.stations ∧
    (billSet body s).1.forwarding = s.forwarding ∧ (billSet body s).1.buffer = s.buffer ∧
    (billSet body s).1.relief = s.relief ∧ (billSet body s).1.ports = s.ports ∧
    (billSet body s).1.measurement = s.measurement ∧ (billSet body s).1.now = s.now ∧
    (billSet body s).1.lineOut = s.lineOut ∧ (billSet body s).1.freeCount = s.freeCount ∧
    (billSet body s).1.pending = s.pending ∧ (billSet body s).1.link = s.link := by
  simp only [billSet]
  repeat' split
  all_goals first | rfl | simp

@[simp] theorem billLock_keeps (body : List Byte) (s : State) :
    (billLock body s).1.directory = s.directory ∧ (billLock body s).1.stations = s.stations ∧
    (billLock body s).1.forwarding = s.forwarding ∧ (billLock body s).1.buffer = s.buffer ∧
    (billLock body s).1.relief = s.relief ∧ (billLock body s).1.ports = s.ports ∧
    (billLock body s).1.measurement = s.measurement ∧ (billLock body s).1.now = s.now ∧
    (billLock body s).1.lineOut = s.lineOut ∧ (billLock body s).1.freeCount = s.freeCount ∧
    (billLock body s).1.pending = s.pending ∧ (billLock body s).1.link = s.link := by
  simp only [billLock]
  first | rfl | simp

@[simp] theorem billClose_keeps (body : List Byte) (s : State) :
    (billClose body s).1.stations = s.stations ∧ (billClose body s).1.forwarding = s.forwarding ∧
    (billClose body s).1.buffer = s.buffer ∧ (billClose body s).1.relief = s.relief ∧
    (billClose body s).1.ports = s.ports ∧ (billClose body s).1.measurement = s.measurement ∧
    (billClose body s).1.now = s.now ∧ (billClose body s).1.lineOut = s.lineOut ∧
    (billClose body s).1.freeCount = s.freeCount ∧ (billClose body s).1.pending = s.pending ∧
    (billClose body s).1.link.rx = s.link.rx ∧ (billClose body s).1.link.gap = s.link.gap ∧
    (billClose body s).1.link.places = s.link.places ∧
    (billClose body s).1.link.overflow = s.link.overflow ∧
    (billClose body s).1.link.sending = s.link.sending ∧
    (billClose body s).1.link.noticeCount = s.link.noticeCount ∧
    (billClose body s).1.link.mask = s.link.mask ∧
    (billClose body s).1.link.linkErrors = s.link.linkErrors ∧
    (billClose body s).1.link.restartRecord = s.link.restartRecord ∧
    (billClose body s).1.link.inRestart = s.link.inRestart ∧
    (billClose body s).1.link.restartHanded = s.link.restartHanded ∧
    (billClose body s).1.link.restartLineHigh = s.link.restartLineHigh := by
  simp only [billClose]
  repeat' split
  all_goals first | rfl | simp

@[simp] theorem billStop_keeps (body : List Byte) (s : State) :
    (billStop body s).1.stations = s.stations ∧ (billStop body s).1.forwarding = s.forwarding ∧
    (billStop body s).1.buffer = s.buffer ∧ (billStop body s).1.relief = s.relief ∧
    (billStop body s).1.ports = s.ports ∧ (billStop body s).1.measurement = s.measurement ∧
    (billStop body s).1.now = s.now ∧ (billStop body s).1.lineOut = s.lineOut ∧
    (billStop body s).1.freeCount = s.freeCount ∧ (billStop body s).1.pending = s.pending ∧
    (billStop body s).1.link.rx = s.link.rx ∧ (billStop body s).1.link.gap = s.link.gap ∧
    (billStop body s).1.link.places = s.link.places ∧ (billStop body s).1.link.overflow = s.link.overflow ∧
    (billStop body s).1.link.sending = s.link.sending ∧
    (billStop body s).1.link.noticeCount = s.link.noticeCount ∧
    (billStop body s).1.link.mask = s.link.mask ∧ (billStop body s).1.link.linkErrors = s.link.linkErrors ∧
    (billStop body s).1.link.restartRecord = s.link.restartRecord ∧
    (billStop body s).1.link.inRestart = s.link.inRestart ∧
    (billStop body s).1.link.restartHanded = s.link.restartHanded ∧
    (billStop body s).1.link.restartLineHigh = s.link.restartLineHigh := by
  simp only [billStop]
  repeat' split
  all_goals first | rfl | simp

@[simp] theorem billDrain_keeps (body : List Byte) (s : State) :
    (billDrain body s).1.stations = s.stations ∧ (billDrain body s).1.forwarding = s.forwarding ∧
    (billDrain body s).1.buffer = s.buffer ∧ (billDrain body s).1.relief = s.relief ∧
    (billDrain body s).1.ports = s.ports ∧ (billDrain body s).1.measurement = s.measurement ∧
    (billDrain body s).1.now = s.now ∧ (billDrain body s).1.lineOut = s.lineOut ∧
    (billDrain body s).1.freeCount = s.freeCount ∧ (billDrain body s).1.pending = s.pending ∧
    (billDrain body s).1.link.rx = s.link.rx ∧ (billDrain body s).1.link.gap = s.link.gap ∧
    (billDrain body s).1.link.places = s.link.places ∧
    (billDrain body s).1.link.overflow = s.link.overflow ∧
    (billDrain body s).1.link.sending = s.link.sending ∧
    (billDrain body s).1.link.noticeCount = s.link.noticeCount ∧
    (billDrain body s).1.link.mask = s.link.mask ∧
    (billDrain body s).1.link.linkErrors = s.link.linkErrors ∧
    (billDrain body s).1.link.restartRecord = s.link.restartRecord ∧
    (billDrain body s).1.link.inRestart = s.link.inRestart ∧
    (billDrain body s).1.link.restartHanded = s.link.restartHanded ∧
    (billDrain body s).1.link.restartLineHigh = s.link.restartLineHigh := by
  simp only [billDrain]
  repeat' split
  all_goals first | rfl | simp

@[simp] theorem drawByte_keeps (s : State) :
    (drawByte s).1.directory = s.directory ∧ (drawByte s).1.stations = s.stations ∧
    (drawByte s).1.forwarding = s.forwarding ∧ (drawByte s).1.buffer = s.buffer ∧
    (drawByte s).1.relief = s.relief ∧ (drawByte s).1.ports = s.ports ∧
    (drawByte s).1.measurement = s.measurement ∧ (drawByte s).1.billing = s.billing ∧
    (drawByte s).1.now = s.now ∧ (drawByte s).1.lineOut = s.lineOut ∧ (drawByte s).1.pending = s.pending ∧
    (drawByte s).1.link = s.link := by
  simp only [drawByte]
  first | rfl | simp

@[simp] theorem stagedBytes_keeps (s : State) :
    (stagedBytes s).1.directory = s.directory ∧ (stagedBytes s).1.stations = s.stations ∧
    (stagedBytes s).1.forwarding = s.forwarding ∧ (stagedBytes s).1.buffer = s.buffer ∧
    (stagedBytes s).1.relief = s.relief ∧ (stagedBytes s).1.ports = s.ports ∧
    (stagedBytes s).1.measurement = s.measurement ∧ (stagedBytes s).1.billing = s.billing ∧
    (stagedBytes s).1.now = s.now ∧ (stagedBytes s).1.lineOut = s.lineOut ∧
    (stagedBytes s).1.pending = s.pending ∧ (stagedBytes s).1.link = s.link := by
  simp only [stagedBytes]
  repeat' split
  all_goals first | rfl | simp

@[simp] theorem billReport_keeps (t : Option TenantId) (s : State) :
    (billReport s t).1.directory = s.directory ∧ (billReport s t).1.stations = s.stations ∧
    (billReport s t).1.forwarding = s.forwarding ∧ (billReport s t).1.buffer = s.buffer ∧
    (billReport s t).1.relief = s.relief ∧ (billReport s t).1.ports = s.ports ∧
    (billReport s t).1.measurement = s.measurement ∧ (billReport s t).1.billing = s.billing ∧
    (billReport s t).1.now = s.now ∧ (billReport s t).1.lineOut = s.lineOut ∧
    (billReport s t).1.pending = s.pending ∧ (billReport s t).1.link = s.link := by
  simp only [billReport]
  first | rfl | simp

@[simp] theorem billQuery_keeps (body : List Byte) (s : State) :
    (billQuery body s).1.directory = s.directory ∧ (billQuery body s).1.stations = s.stations ∧
    (billQuery body s).1.forwarding = s.forwarding ∧ (billQuery body s).1.buffer = s.buffer ∧
    (billQuery body s).1.relief = s.relief ∧ (billQuery body s).1.ports = s.ports ∧
    (billQuery body s).1.measurement = s.measurement ∧ (billQuery body s).1.billing = s.billing ∧
    (billQuery body s).1.now = s.now ∧ (billQuery body s).1.lineOut = s.lineOut ∧
    (billQuery body s).1.pending = s.pending ∧ (billQuery body s).1.link = s.link := by
  simp only [billQuery]
  repeat' split
  all_goals first | rfl | simp

@[simp] theorem modTenant_keeps (t : TenantId) (f : Tenant → Tenant) (s : State) :
    (modTenant t f s).stations = s.stations ∧ (modTenant t f s).forwarding = s.forwarding ∧
    (modTenant t f s).buffer = s.buffer ∧ (modTenant t f s).relief = s.relief ∧
    (modTenant t f s).ports = s.ports ∧ (modTenant t f s).measurement = s.measurement ∧
    (modTenant t f s).billing = s.billing ∧ (modTenant t f s).now = s.now ∧
    (modTenant t f s).lineOut = s.lineOut ∧ (modTenant t f s).freeCount = s.freeCount ∧
    (modTenant t f s).pending = s.pending ∧ (modTenant t f s).link = s.link := by
  simp only [modTenant]
  first | rfl | simp

@[simp] theorem setSegment_keeps (g : SegmentId) (x : Option Segment) (s : State) :
    (setSegment g x s).stations = s.stations ∧ (setSegment g x s).forwarding = s.forwarding ∧
    (setSegment g x s).buffer = s.buffer ∧ (setSegment g x s).relief = s.relief ∧
    (setSegment g x s).ports = s.ports ∧ (setSegment g x s).measurement = s.measurement ∧
    (setSegment g x s).billing = s.billing ∧ (setSegment g x s).now = s.now ∧
    (setSegment g x s).lineOut = s.lineOut ∧ (setSegment g x s).freeCount = s.freeCount ∧
    (setSegment g x s).pending = s.pending ∧ (setSegment g x s).link = s.link := by
  simp only [setSegment]
  first | rfl | simp

@[simp] theorem removeTenant_keeps (t : TenantId) (s : State) :
    (removeTenant t s).stations = s.stations ∧ (removeTenant t s).forwarding = s.forwarding ∧
    (removeTenant t s).buffer = s.buffer ∧ (removeTenant t s).relief = s.relief ∧
    (removeTenant t s).ports = s.ports ∧ (removeTenant t s).measurement = s.measurement ∧
    (removeTenant t s).now = s.now ∧ (removeTenant t s).lineOut = s.lineOut ∧
    (removeTenant t s).freeCount = s.freeCount ∧ (removeTenant t s).pending = s.pending ∧
    (removeTenant t s).link = s.link := by
  simp only [removeTenant]
  repeat' split
  all_goals first | rfl | simp

@[simp] theorem tenantDefine_keeps (body : List Byte) (s : State) :
    (tenantDefine body s).1.stations = s.stations ∧ (tenantDefine body s).1.forwarding = s.forwarding ∧
    (tenantDefine body s).1.buffer = s.buffer ∧ (tenantDefine body s).1.relief = s.relief ∧
    (tenantDefine body s).1.ports = s.ports ∧ (tenantDefine body s).1.measurement = s.measurement ∧
    (tenantDefine body s).1.now = s.now ∧ (tenantDefine body s).1.lineOut = s.lineOut ∧
    (tenantDefine body s).1.freeCount = s.freeCount ∧ (tenantDefine body s).1.pending = s.pending ∧
    (tenantDefine body s).1.link = s.link := by
  simp only [tenantDefine]
  repeat' split
  all_goals first | rfl | simp

@[simp] theorem tenantRemove_keeps (body : List Byte) (s : State) :
    (tenantRemove body s).1.stations = s.stations ∧ (tenantRemove body s).1.forwarding = s.forwarding ∧
    (tenantRemove body s).1.buffer = s.buffer ∧ (tenantRemove body s).1.relief = s.relief ∧
    (tenantRemove body s).1.ports = s.ports ∧ (tenantRemove body s).1.measurement = s.measurement ∧
    (tenantRemove body s).1.now = s.now ∧ (tenantRemove body s).1.lineOut = s.lineOut ∧
    (tenantRemove body s).1.freeCount = s.freeCount ∧ (tenantRemove body s).1.pending = s.pending ∧
    (tenantRemove body s).1.link = s.link := by
  simp only [tenantRemove]
  repeat' split
  all_goals first | rfl | simp

@[simp] theorem tenantQuery_keeps (body : List Byte) (s : State) :
    (tenantQuery body s).1.directory = s.directory ∧ (tenantQuery body s).1.stations = s.stations ∧
    (tenantQuery body s).1.forwarding = s.forwarding ∧ (tenantQuery body s).1.buffer = s.buffer ∧
    (tenantQuery body s).1.relief = s.relief ∧ (tenantQuery body s).1.ports = s.ports ∧
    (tenantQuery body s).1.measurement = s.measurement ∧ (tenantQuery body s).1.billing = s.billing ∧
    (tenantQuery body s).1.now = s.now ∧ (tenantQuery body s).1.lineOut = s.lineOut ∧
    (tenantQuery body s).1.freeCount = s.freeCount ∧ (tenantQuery body s).1.pending = s.pending ∧
    (tenantQuery body s).1.link = s.link := by
  simp only [tenantQuery]
  repeat' split
  all_goals first | rfl | simp

@[simp] theorem applyBinding_keeps (q : StationPort) (b : Option Binding) (s : State) :
    (applyBinding q b s).stations = s.stations ∧ (applyBinding q b s).forwarding = s.forwarding ∧
    (applyBinding q b s).buffer = s.buffer ∧ (applyBinding q b s).relief = s.relief ∧
    (applyBinding q b s).ports = s.ports ∧ (applyBinding q b s).measurement = s.measurement ∧
    (applyBinding q b s).billing = s.billing ∧ (applyBinding q b s).now = s.now ∧
    (applyBinding q b s).lineOut = s.lineOut ∧ (applyBinding q b s).freeCount = s.freeCount ∧
    (applyBinding q b s).pending = s.pending ∧ (applyBinding q b s).link = s.link := by
  simp only [applyBinding]
  first | rfl | simp

@[simp] theorem stageBinding_keeps (q : StationPort) (b : Option Binding) (s : State) :
    (stageBinding q b s).stations = s.stations ∧ (stageBinding q b s).forwarding = s.forwarding ∧
    (stageBinding q b s).buffer = s.buffer ∧ (stageBinding q b s).relief = s.relief ∧
    (stageBinding q b s).ports = s.ports ∧ (stageBinding q b s).measurement = s.measurement ∧
    (stageBinding q b s).billing = s.billing ∧ (stageBinding q b s).now = s.now ∧
    (stageBinding q b s).lineOut = s.lineOut ∧ (stageBinding q b s).freeCount = s.freeCount ∧
    (stageBinding q b s).pending = s.pending ∧ (stageBinding q b s).link = s.link := by
  simp only [stageBinding]
  first | rfl | simp

@[simp] theorem bindPort_keeps (p : Port) (b : Option Binding) (s : State) :
    (bindPort p b s).1.stations = s.stations ∧ (bindPort p b s).1.forwarding = s.forwarding ∧
    (bindPort p b s).1.buffer = s.buffer ∧ (bindPort p b s).1.relief = s.relief ∧
    (bindPort p b s).1.ports = s.ports ∧ (bindPort p b s).1.measurement = s.measurement ∧
    (bindPort p b s).1.billing = s.billing ∧ (bindPort p b s).1.now = s.now ∧
    (bindPort p b s).1.lineOut = s.lineOut ∧ (bindPort p b s).1.freeCount = s.freeCount ∧
    (bindPort p b s).1.pending = s.pending ∧ (bindPort p b s).1.link = s.link := by
  simp only [bindPort]
  repeat' split
  all_goals first | rfl | simp

@[simp] theorem tenantBind_keeps (body : List Byte) (s : State) :
    (tenantBind body s).1.stations = s.stations ∧ (tenantBind body s).1.forwarding = s.forwarding ∧
    (tenantBind body s).1.buffer = s.buffer ∧ (tenantBind body s).1.relief = s.relief ∧
    (tenantBind body s).1.ports = s.ports ∧ (tenantBind body s).1.measurement = s.measurement ∧
    (tenantBind body s).1.billing = s.billing ∧ (tenantBind body s).1.now = s.now ∧
    (tenantBind body s).1.lineOut = s.lineOut ∧ (tenantBind body s).1.freeCount = s.freeCount ∧
    (tenantBind body s).1.pending = s.pending ∧ (tenantBind body s).1.link = s.link := by
  simp only [tenantBind]
  repeat' split
  all_goals first | rfl | simp

@[simp] theorem defineSegment_keeps (g : SegmentId) (t : TenantId) (x : Option Group) (s : State) :
    (defineSegment g t x s).1.forwarding = s.forwarding ∧ (defineSegment g t x s).1.buffer = s.buffer ∧
    (defineSegment g t x s).1.relief = s.relief ∧ (defineSegment g t x s).1.ports = s.ports ∧
    (defineSegment g t x s).1.measurement = s.measurement ∧ (defineSegment g t x s).1.billing = s.billing ∧
    (defineSegment g t x s).1.now = s.now ∧ (defineSegment g t x s).1.lineOut = s.lineOut ∧
    (defineSegment g t x s).1.freeCount = s.freeCount ∧ (defineSegment g t x s).1.pending = s.pending ∧
    (defineSegment g t x s).1.link = s.link := by
  simp only [defineSegment]
  repeat' split
  all_goals first | rfl | simp

@[simp] theorem segmentDefine_keeps (body : List Byte) (s : State) :
    (segmentDefine body s).1.forwarding = s.forwarding ∧ (segmentDefine body s).1.buffer = s.buffer ∧
    (segmentDefine body s).1.relief = s.relief ∧ (segmentDefine body s).1.ports = s.ports ∧
    (segmentDefine body s).1.measurement = s.measurement ∧ (segmentDefine body s).1.billing = s.billing ∧
    (segmentDefine body s).1.now = s.now ∧ (segmentDefine body s).1.lineOut = s.lineOut ∧
    (segmentDefine body s).1.freeCount = s.freeCount ∧ (segmentDefine body s).1.pending = s.pending ∧
    (segmentDefine body s).1.link = s.link := by
  simp only [segmentDefine]
  repeat' split
  all_goals first | rfl | simp

@[simp] theorem segmentRemove_keeps (body : List Byte) (s : State) :
    (segmentRemove body s).1.forwarding = s.forwarding ∧ (segmentRemove body s).1.buffer = s.buffer ∧
    (segmentRemove body s).1.relief = s.relief ∧ (segmentRemove body s).1.ports = s.ports ∧
    (segmentRemove body s).1.measurement = s.measurement ∧ (segmentRemove body s).1.billing = s.billing ∧
    (segmentRemove body s).1.now = s.now ∧ (segmentRemove body s).1.lineOut = s.lineOut ∧
    (segmentRemove body s).1.freeCount = s.freeCount ∧ (segmentRemove body s).1.pending = s.pending ∧
    (segmentRemove body s).1.link = s.link := by
  simp only [segmentRemove]
  repeat' split
  all_goals first | rfl | simp

@[simp] theorem trunkGroup_keeps (body : List Byte) (s : State) :
    (trunkGroup body s).1.directory = s.directory ∧ (trunkGroup body s).1.stations = s.stations ∧
    (trunkGroup body s).1.buffer = s.buffer ∧ (trunkGroup body s).1.relief = s.relief ∧
    (trunkGroup body s).1.ports = s.ports ∧ (trunkGroup body s).1.measurement = s.measurement ∧
    (trunkGroup body s).1.billing = s.billing ∧ (trunkGroup body s).1.now = s.now ∧
    (trunkGroup body s).1.lineOut = s.lineOut ∧ (trunkGroup body s).1.freeCount = s.freeCount ∧
    (trunkGroup body s).1.pending = s.pending ∧ (trunkGroup body s).1.link = s.link := by
  simp only [trunkGroup]
  repeat' split
  all_goals first | rfl | simp

@[simp] theorem forwardStatus_keeps (body : List Byte) (s : State) :
    (forwardStatus body s).1.directory = s.directory ∧ (forwardStatus body s).1.stations = s.stations ∧
    (forwardStatus body s).1.forwarding = s.forwarding ∧ (forwardStatus body s).1.buffer = s.buffer ∧
    (forwardStatus body s).1.relief = s.relief ∧ (forwardStatus body s).1.ports = s.ports ∧
    (forwardStatus body s).1.measurement = s.measurement ∧ (forwardStatus body s).1.billing = s.billing ∧
    (forwardStatus body s).1.now = s.now ∧ (forwardStatus body s).1.lineOut = s.lineOut ∧
    (forwardStatus body s).1.freeCount = s.freeCount ∧ (forwardStatus body s).1.pending = s.pending ∧
    (forwardStatus body s).1.link = s.link := by
  simp only [forwardStatus]
  first | rfl | simp

@[simp] theorem configAnswer_keeps (p : Port) (s : State) :
    (configAnswer p s).1.directory = s.directory ∧ (configAnswer p s).1.stations = s.stations ∧
    (configAnswer p s).1.forwarding = s.forwarding ∧ (configAnswer p s).1.buffer = s.buffer ∧
    (configAnswer p s).1.relief = s.relief ∧ (configAnswer p s).1.ports = s.ports ∧
    (configAnswer p s).1.measurement = s.measurement ∧ (configAnswer p s).1.billing = s.billing ∧
    (configAnswer p s).1.now = s.now ∧ (configAnswer p s).1.lineOut = s.lineOut ∧
    (configAnswer p s).1.freeCount = s.freeCount ∧ (configAnswer p s).1.pending = s.pending ∧
    (configAnswer p s).1.link = s.link := by
  simp only [configAnswer]
  first | rfl | simp

@[simp] theorem restartSilence_keeps (ps : List (ConfigField × Nat)) (p : Port) (s : State) :
    (restartSilence ps p s).directory = s.directory ∧ (restartSilence ps p s).stations = s.stations ∧
    (restartSilence ps p s).forwarding = s.forwarding ∧ (restartSilence ps p s).buffer = s.buffer ∧
    (restartSilence ps p s).relief = s.relief ∧ (restartSilence ps p s).measurement = s.measurement ∧
    (restartSilence ps p s).billing = s.billing ∧ (restartSilence ps p s).now = s.now ∧
    (restartSilence ps p s).lineOut = s.lineOut ∧ (restartSilence ps p s).freeCount = s.freeCount ∧
    (restartSilence ps p s).pending = s.pending ∧ (restartSilence ps p s).link = s.link := by
  simp only [restartSilence]
  repeat' split
  all_goals first | rfl | simp

@[simp] theorem setPort_keeps (p : Port) (ps : List (ConfigField × Nat)) (s : State) :
    (setPort p ps s).1.directory = s.directory ∧ (setPort p ps s).1.stations = s.stations ∧
    (setPort p ps s).1.forwarding = s.forwarding ∧ (setPort p ps s).1.buffer = s.buffer ∧
    (setPort p ps s).1.relief.settings = s.relief.settings ∧
    (setPort p ps s).1.measurement = s.measurement ∧ (setPort p ps s).1.billing = s.billing ∧
    (setPort p ps s).1.now = s.now ∧ (setPort p ps s).1.freeCount = s.freeCount ∧
    (setPort p ps s).1.pending = s.pending ∧ (setPort p ps s).1.link.rx = s.link.rx ∧
    (setPort p ps s).1.link.gap = s.link.gap ∧ (setPort p ps s).1.link.places = s.link.places ∧
    (setPort p ps s).1.link.overflow = s.link.overflow ∧ (setPort p ps s).1.link.sending = s.link.sending ∧
    (setPort p ps s).1.link.noticeCount = s.link.noticeCount ∧ (setPort p ps s).1.link.mask = s.link.mask ∧
    (setPort p ps s).1.link.linkErrors = s.link.linkErrors ∧
    (setPort p ps s).1.link.restartRecord = s.link.restartRecord ∧
    (setPort p ps s).1.link.inRestart = s.link.inRestart ∧
    (setPort p ps s).1.link.restartHanded = s.link.restartHanded ∧
    (setPort p ps s).1.link.restartLineHigh = s.link.restartLineHigh := by
  simp only [setPort]
  repeat' split
  all_goals first | rfl | simp

@[simp] theorem portSet_keeps (body : List Byte) (s : State) :
    (portSet body s).1.directory = s.directory ∧ (portSet body s).1.stations = s.stations ∧
    (portSet body s).1.forwarding = s.forwarding ∧ (portSet body s).1.buffer = s.buffer ∧
    (portSet body s).1.relief.settings = s.relief.settings ∧
    (portSet body s).1.measurement = s.measurement ∧ (portSet body s).1.billing = s.billing ∧
    (portSet body s).1.now = s.now ∧ (portSet body s).1.freeCount = s.freeCount ∧
    (portSet body s).1.pending = s.pending ∧ (portSet body s).1.link.rx = s.link.rx ∧
    (portSet body s).1.link.gap = s.link.gap ∧ (portSet body s).1.link.places = s.link.places ∧
    (portSet body s).1.link.overflow = s.link.overflow ∧ (portSet body s).1.link.sending = s.link.sending ∧
    (portSet body s).1.link.noticeCount = s.link.noticeCount ∧ (portSet body s).1.link.mask = s.link.mask ∧
    (portSet body s).1.link.linkErrors = s.link.linkErrors ∧
    (portSet body s).1.link.restartRecord = s.link.restartRecord ∧
    (portSet body s).1.link.inRestart = s.link.inRestart ∧
    (portSet body s).1.link.restartHanded = s.link.restartHanded ∧
    (portSet body s).1.link.restartLineHigh = s.link.restartLineHigh := by
  simp only [portSet]
  repeat' split
  all_goals first | rfl | simp

@[simp] theorem adjustApply_keeps (p : Port) (ps : List (ConfigField × Nat)) (s : State) :
    (adjustApply p ps s).directory = s.directory ∧
    (adjustApply p ps s).relief.settings = s.relief.settings ∧ (adjustApply p ps s).now = s.now ∧
    (adjustApply p ps s).freeCount = s.freeCount ∧ (adjustApply p ps s).pending = s.pending ∧
    (adjustApply p ps s).link.rx = s.link.rx ∧ (adjustApply p ps s).link.gap = s.link.gap ∧
    (adjustApply p ps s).link.places = s.link.places ∧
    (adjustApply p ps s).link.overflow = s.link.overflow ∧
    (adjustApply p ps s).link.sending = s.link.sending ∧
    (adjustApply p ps s).link.noticeCount = s.link.noticeCount ∧
    (adjustApply p ps s).link.mask = s.link.mask ∧
    (adjustApply p ps s).link.linkErrors = s.link.linkErrors ∧
    (adjustApply p ps s).link.restartRecord = s.link.restartRecord ∧
    (adjustApply p ps s).link.inRestart = s.link.inRestart ∧
    (adjustApply p ps s).link.restartHanded = s.link.restartHanded ∧
    (adjustApply p ps s).link.restartLineHigh = s.link.restartLineHigh := by
  simp only [adjustApply]
  repeat' split
  all_goals first | rfl | simp

@[simp] theorem adjustPort_keeps (p : Port) (ps : List (ConfigField × Nat)) (s : State) :
    (adjustPort p ps s).1.directory = s.directory ∧
    (adjustPort p ps s).1.relief.settings = s.relief.settings ∧ (adjustPort p ps s).1.now = s.now ∧
    (adjustPort p ps s).1.freeCount = s.freeCount ∧ (adjustPort p ps s).1.pending = s.pending ∧
    (adjustPort p ps s).1.link.rx = s.link.rx ∧ (adjustPort p ps s).1.link.gap = s.link.gap ∧
    (adjustPort p ps s).1.link.places = s.link.places ∧
    (adjustPort p ps s).1.link.overflow = s.link.overflow ∧
    (adjustPort p ps s).1.link.sending = s.link.sending ∧
    (adjustPort p ps s).1.link.noticeCount = s.link.noticeCount ∧
    (adjustPort p ps s).1.link.mask = s.link.mask ∧
    (adjustPort p ps s).1.link.linkErrors = s.link.linkErrors ∧
    (adjustPort p ps s).1.link.restartRecord = s.link.restartRecord ∧
    (adjustPort p ps s).1.link.inRestart = s.link.inRestart ∧
    (adjustPort p ps s).1.link.restartHanded = s.link.restartHanded ∧
    (adjustPort p ps s).1.link.restartLineHigh = s.link.restartLineHigh := by
  simp only [adjustPort]
  repeat' split
  all_goals first | rfl | simp

@[simp] theorem portAdjust_keeps (body : List Byte) (s : State) :
    (portAdjust body s).1.directory = s.directory ∧
    (portAdjust body s).1.relief.settings = s.relief.settings ∧ (portAdjust body s).1.now = s.now ∧
    (portAdjust body s).1.freeCount = s.freeCount ∧ (portAdjust body s).1.pending = s.pending ∧
    (portAdjust body s).1.link.rx = s.link.rx ∧ (portAdjust body s).1.link.gap = s.link.gap ∧
    (portAdjust body s).1.link.places = s.link.places ∧
    (portAdjust body s).1.link.overflow = s.link.overflow ∧
    (portAdjust body s).1.link.sending = s.link.sending ∧
    (portAdjust body s).1.link.noticeCount = s.link.noticeCount ∧
    (portAdjust body s).1.link.mask = s.link.mask ∧
    (portAdjust body s).1.link.linkErrors = s.link.linkErrors ∧
    (portAdjust body s).1.link.restartRecord = s.link.restartRecord ∧
    (portAdjust body s).1.link.inRestart = s.link.inRestart ∧
    (portAdjust body s).1.link.restartHanded = s.link.restartHanded ∧
    (portAdjust body s).1.link.restartLineHigh = s.link.restartLineHigh := by
  simp only [portAdjust]
  repeat' split
  all_goals first | rfl | simp

@[simp] theorem portQuery_keeps (body : List Byte) (s : State) :
    (portQuery body s).1.directory = s.directory ∧ (portQuery body s).1.stations = s.stations ∧
    (portQuery body s).1.forwarding = s.forwarding ∧ (portQuery body s).1.buffer = s.buffer ∧
    (portQuery body s).1.relief = s.relief ∧ (portQuery body s).1.measurement = s.measurement ∧
    (portQuery body s).1.billing = s.billing ∧ (portQuery body s).1.now = s.now ∧
    (portQuery body s).1.lineOut = s.lineOut ∧ (portQuery body s).1.freeCount = s.freeCount ∧
    (portQuery body s).1.pending = s.pending ∧ (portQuery body s).1.link = s.link := by
  simp only [portQuery]
  repeat' split
  all_goals first | rfl | simp

@[simp] theorem releasePort_keeps (p : Port) (s : State) :
    (releasePort p s).directory = s.directory ∧ (releasePort p s).stations = s.stations ∧
    (releasePort p s).forwarding = s.forwarding ∧ (releasePort p s).buffer = s.buffer ∧
    (releasePort p s).relief = s.relief ∧ (releasePort p s).measurement = s.measurement ∧
    (releasePort p s).billing = s.billing ∧ (releasePort p s).now = s.now ∧
    (releasePort p s).freeCount = s.freeCount ∧ (releasePort p s).pending = s.pending ∧
    (releasePort p s).link.rx = s.link.rx ∧ (releasePort p s).link.gap = s.link.gap ∧
    (releasePort p s).link.places = s.link.places ∧ (releasePort p s).link.overflow = s.link.overflow ∧
    (releasePort p s).link.sending = s.link.sending ∧
    (releasePort p s).link.noticeCount = s.link.noticeCount ∧ (releasePort p s).link.mask = s.link.mask ∧
    (releasePort p s).link.linkErrors = s.link.linkErrors ∧
    (releasePort p s).link.restartRecord = s.link.restartRecord ∧
    (releasePort p s).link.inRestart = s.link.inRestart ∧
    (releasePort p s).link.restartHanded = s.link.restartHanded ∧
    (releasePort p s).link.restartLineHigh = s.link.restartLineHigh := by
  simp only [releasePort]
  first | rfl | simp

@[simp] theorem portRelease_keeps (body : List Byte) (s : State) :
    (portRelease body s).1.directory = s.directory ∧ (portRelease body s).1.stations = s.stations ∧
    (portRelease body s).1.forwarding = s.forwarding ∧ (portRelease body s).1.buffer = s.buffer ∧
    (portRelease body s).1.relief.settings = s.relief.settings ∧
    (portRelease body s).1.measurement = s.measurement ∧ (portRelease body s).1.billing = s.billing ∧
    (portRelease body s).1.now = s.now ∧ (portRelease body s).1.freeCount = s.freeCount ∧
    (portRelease body s).1.pending = s.pending ∧ (portRelease body s).1.link.rx = s.link.rx ∧
    (portRelease body s).1.link.gap = s.link.gap ∧ (portRelease body s).1.link.places = s.link.places ∧
    (portRelease body s).1.link.overflow = s.link.overflow ∧
    (portRelease body s).1.link.sending = s.link.sending ∧
    (portRelease body s).1.link.noticeCount = s.link.noticeCount ∧
    (portRelease body s).1.link.mask = s.link.mask ∧
    (portRelease body s).1.link.linkErrors = s.link.linkErrors ∧
    (portRelease body s).1.link.restartRecord = s.link.restartRecord ∧
    (portRelease body s).1.link.inRestart = s.link.inRestart ∧
    (portRelease body s).1.link.restartHanded = s.link.restartHanded ∧
    (portRelease body s).1.link.restartLineHigh = s.link.restartLineHigh := by
  simp only [portRelease]
  repeat' split
  all_goals first | rfl | simp

@[simp] theorem portFaults_keeps (body : List Byte) (s : State) :
    (portFaults body s).1.directory = s.directory ∧ (portFaults body s).1.stations = s.stations ∧
    (portFaults body s).1.forwarding = s.forwarding ∧ (portFaults body s).1.buffer = s.buffer ∧
    (portFaults body s).1.relief = s.relief ∧ (portFaults body s).1.measurement = s.measurement ∧
    (portFaults body s).1.billing = s.billing ∧ (portFaults body s).1.now = s.now ∧
    (portFaults body s).1.lineOut = s.lineOut ∧ (portFaults body s).1.freeCount = s.freeCount ∧
    (portFaults body s).1.pending = s.pending ∧ (portFaults body s).1.link = s.link := by
  simp only [portFaults]
  repeat' split
  all_goals first | rfl | simp

@[simp] theorem lineMeasure_keeps (body : List Byte) (s : State) :
    (lineMeasure body s).1.directory = s.directory ∧ (lineMeasure body s).1.stations = s.stations ∧
    (lineMeasure body s).1.forwarding = s.forwarding ∧ (lineMeasure body s).1.buffer = s.buffer ∧
    (lineMeasure body s).1.relief = s.relief ∧ (lineMeasure body s).1.ports = s.ports ∧
    (lineMeasure body s).1.billing = s.billing ∧ (lineMeasure body s).1.now = s.now ∧
    (lineMeasure body s).1.lineOut = s.lineOut ∧ (lineMeasure body s).1.freeCount = s.freeCount ∧
    (lineMeasure body s).1.pending = s.pending ∧ (lineMeasure body s).1.link = s.link := by
  simp only [lineMeasure]
  repeat' split
  all_goals first | rfl | simp

@[simp] theorem lineCalibrate_keeps (body : List Byte) (s : State) :
    (lineCalibrate body s).1.directory = s.directory ∧ (lineCalibrate body s).1.stations = s.stations ∧
    (lineCalibrate body s).1.forwarding = s.forwarding ∧ (lineCalibrate body s).1.buffer = s.buffer ∧
    (lineCalibrate body s).1.relief = s.relief ∧ (lineCalibrate body s).1.ports = s.ports ∧
    (lineCalibrate body s).1.billing = s.billing ∧ (lineCalibrate body s).1.now = s.now ∧
    (lineCalibrate body s).1.lineOut = s.lineOut ∧ (lineCalibrate body s).1.freeCount = s.freeCount ∧
    (lineCalibrate body s).1.pending = s.pending ∧ (lineCalibrate body s).1.link = s.link := by
  simp only [lineCalibrate]
  repeat' split
  all_goals first | rfl | simp

@[simp] theorem bufferQuery_keeps (body : List Byte) (s : State) :
    (bufferQuery body s).1.directory = s.directory ∧ (bufferQuery body s).1.stations = s.stations ∧
    (bufferQuery body s).1.forwarding = s.forwarding ∧ (bufferQuery body s).1.buffer = s.buffer ∧
    (bufferQuery body s).1.relief = s.relief ∧ (bufferQuery body s).1.ports = s.ports ∧
    (bufferQuery body s).1.measurement = s.measurement ∧ (bufferQuery body s).1.billing = s.billing ∧
    (bufferQuery body s).1.now = s.now ∧ (bufferQuery body s).1.lineOut = s.lineOut ∧
    (bufferQuery body s).1.freeCount = s.freeCount ∧ (bufferQuery body s).1.pending = s.pending ∧
    (bufferQuery body s).1.link = s.link := by
  simp only [bufferQuery]
  first | rfl | simp

@[simp] theorem reliefSet_keeps (body : List Byte) (s : State) :
    (reliefSet body s).1.directory = s.directory ∧ (reliefSet body s).1.stations = s.stations ∧
    (reliefSet body s).1.forwarding = s.forwarding ∧ (reliefSet body s).1.buffer = s.buffer ∧
    (reliefSet body s).1.ports = s.ports ∧ (reliefSet body s).1.measurement = s.measurement ∧
    (reliefSet body s).1.billing = s.billing ∧ (reliefSet body s).1.now = s.now ∧
    (reliefSet body s).1.lineOut = s.lineOut ∧ (reliefSet body s).1.freeCount = s.freeCount ∧
    (reliefSet body s).1.pending = s.pending ∧ (reliefSet body s).1.link = s.link := by
  simp only [reliefSet]
  repeat' split
  all_goals first | rfl | simp

@[simp] theorem reliefQuery_keeps (body : List Byte) (s : State) :
    (reliefQuery body s).1.directory = s.directory ∧ (reliefQuery body s).1.stations = s.stations ∧
    (reliefQuery body s).1.forwarding = s.forwarding ∧ (reliefQuery body s).1.buffer = s.buffer ∧
    (reliefQuery body s).1.relief = s.relief ∧ (reliefQuery body s).1.ports = s.ports ∧
    (reliefQuery body s).1.measurement = s.measurement ∧ (reliefQuery body s).1.billing = s.billing ∧
    (reliefQuery body s).1.now = s.now ∧ (reliefQuery body s).1.lineOut = s.lineOut ∧
    (reliefQuery body s).1.freeCount = s.freeCount ∧ (reliefQuery body s).1.pending = s.pending ∧
    (reliefQuery body s).1.link = s.link := by
  simp only [reliefQuery]
  first | rfl | simp

@[simp] theorem noticeMask_keeps (body : List Byte) (s : State) :
    (noticeMask body s).1.directory = s.directory ∧ (noticeMask body s).1.stations = s.stations ∧
    (noticeMask body s).1.forwarding = s.forwarding ∧ (noticeMask body s).1.buffer = s.buffer ∧
    (noticeMask body s).1.relief = s.relief ∧ (noticeMask body s).1.ports = s.ports ∧
    (noticeMask body s).1.measurement = s.measurement ∧ (noticeMask body s).1.billing = s.billing ∧
    (noticeMask body s).1.now = s.now ∧ (noticeMask body s).1.lineOut = s.lineOut ∧
    (noticeMask body s).1.freeCount = s.freeCount ∧ (noticeMask body s).1.pending = s.pending ∧
    (noticeMask body s).1.link.rx = s.link.rx ∧ (noticeMask body s).1.link.gap = s.link.gap ∧
    (noticeMask body s).1.link.places = s.link.places ∧
    (noticeMask body s).1.link.overflow = s.link.overflow ∧
    (noticeMask body s).1.link.sending = s.link.sending ∧
    (noticeMask body s).1.link.noticeCount = s.link.noticeCount ∧
    (noticeMask body s).1.link.linkErrors = s.link.linkErrors ∧
    (noticeMask body s).1.link.restartRecord = s.link.restartRecord ∧
    (noticeMask body s).1.link.inRestart = s.link.inRestart ∧
    (noticeMask body s).1.link.restartHanded = s.link.restartHanded ∧
    (noticeMask body s).1.link.restartLineHigh = s.link.restartLineHigh ∧
    (noticeMask body s).1.link.notices = s.link.notices := by
  simp only [noticeMask]
  repeat' split
  all_goals first | rfl | simp

@[simp] theorem hello_keeps (body : List Byte) (s : State) :
    (hello body s).1.directory = s.directory ∧ (hello body s).1.stations = s.stations ∧
    (hello body s).1.forwarding = s.forwarding ∧ (hello body s).1.buffer = s.buffer ∧
    (hello body s).1.relief = s.relief ∧ (hello body s).1.ports = s.ports ∧
    (hello body s).1.measurement = s.measurement ∧ (hello body s).1.billing = s.billing ∧
    (hello body s).1.now = s.now ∧ (hello body s).1.lineOut = s.lineOut ∧
    (hello body s).1.freeCount = s.freeCount ∧ (hello body s).1.pending = s.pending ∧
    (hello body s).1.link = s.link := by
  simp only [hello]
  first | rfl | simp

@[simp] theorem restart_keeps (body : List Byte) (s : State) :
    (restart body s).1.directory = s.directory ∧ (restart body s).1.stations = s.stations ∧
    (restart body s).1.forwarding = s.forwarding ∧ (restart body s).1.buffer = s.buffer ∧
    (restart body s).1.relief = s.relief ∧ (restart body s).1.ports = s.ports ∧
    (restart body s).1.measurement = s.measurement ∧ (restart body s).1.billing = s.billing ∧
    (restart body s).1.now = s.now ∧ (restart body s).1.lineOut = s.lineOut ∧
    (restart body s).1.freeCount = s.freeCount ∧ (restart body s).1.pending = s.pending ∧
    (restart body s).1.link.rx = s.link.rx ∧ (restart body s).1.link.gap = s.link.gap ∧
    (restart body s).1.link.places = s.link.places ∧ (restart body s).1.link.overflow = s.link.overflow ∧
    (restart body s).1.link.sending = s.link.sending ∧
    (restart body s).1.link.noticeCount = s.link.noticeCount ∧ (restart body s).1.link.mask = s.link.mask ∧
    (restart body s).1.link.linkErrors = s.link.linkErrors ∧
    (restart body s).1.link.restartRecord = s.link.restartRecord ∧
    (restart body s).1.link.inRestart = s.link.inRestart ∧
    (restart body s).1.link.restartLineHigh = s.link.restartLineHigh ∧
    (restart body s).1.link.notices = s.link.notices := by
  simp only [restart]
  first | rfl | simp

@[simp] theorem noteReception_keeps (p : Port) (s : State) :
    (noteReception p s).directory = s.directory ∧ (noteReception p s).stations = s.stations ∧
    (noteReception p s).forwarding = s.forwarding ∧ (noteReception p s).buffer = s.buffer ∧
    (noteReception p s).relief = s.relief ∧ (noteReception p s).measurement = s.measurement ∧
    (noteReception p s).billing = s.billing ∧ (noteReception p s).now = s.now ∧
    (noteReception p s).lineOut = s.lineOut ∧ (noteReception p s).freeCount = s.freeCount ∧
    (noteReception p s).pending = s.pending ∧ (noteReception p s).link = s.link := by
  simp only [noteReception]
  first | rfl | simp

@[simp] theorem arrive_keeps (p : Port) (s : State) :
    (arrive p s).directory = s.directory ∧ (arrive p s).stations = s.stations ∧
    (arrive p s).forwarding = s.forwarding ∧ (arrive p s).buffer = s.buffer ∧
    (arrive p s).relief = s.relief ∧ (arrive p s).measurement = s.measurement ∧
    (arrive p s).billing = s.billing ∧ (arrive p s).now = s.now ∧ (arrive p s).lineOut = s.lineOut ∧
    (arrive p s).freeCount = s.freeCount ∧ (arrive p s).pending = s.pending ∧
    (arrive p s).link = s.link := by
  simp only [arrive]
  first | rfl | simp

@[simp] theorem dataArrival_keeps (p : Port) (f : DataFrame) (s : State) :
    (dataArrival p f s).directory = s.directory ∧ (dataArrival p f s).relief.settings = s.relief.settings ∧
    (dataArrival p f s).now = s.now ∧ (dataArrival p f s).freeCount = s.freeCount ∧
    (dataArrival p f s).pending = s.pending ∧ (dataArrival p f s).link.rx = s.link.rx ∧
    (dataArrival p f s).link.gap = s.link.gap ∧ (dataArrival p f s).link.places = s.link.places ∧
    (dataArrival p f s).link.overflow = s.link.overflow ∧
    (dataArrival p f s).link.sending = s.link.sending ∧
    (dataArrival p f s).link.noticeCount = s.link.noticeCount ∧
    (dataArrival p f s).link.mask = s.link.mask ∧ (dataArrival p f s).link.linkErrors = s.link.linkErrors ∧
    (dataArrival p f s).link.restartRecord = s.link.restartRecord ∧
    (dataArrival p f s).link.inRestart = s.link.inRestart ∧
    (dataArrival p f s).link.restartHanded = s.link.restartHanded ∧
    (dataArrival p f s).link.restartLineHigh = s.link.restartLineHigh := by
  simp only [dataArrival]
  repeat' split
  all_goals first | rfl | simp

@[simp] theorem releasePeer_keeps (p : Port) (s : State) :
    (releasePeer p s).directory = s.directory ∧ (releasePeer p s).stations = s.stations ∧
    (releasePeer p s).forwarding = s.forwarding ∧ (releasePeer p s).relief = s.relief ∧
    (releasePeer p s).measurement = s.measurement ∧ (releasePeer p s).billing = s.billing ∧
    (releasePeer p s).now = s.now ∧ (releasePeer p s).freeCount = s.freeCount ∧
    (releasePeer p s).pending = s.pending ∧ (releasePeer p s).link = s.link := by
  simp only [releasePeer]
  repeat' split
  all_goals first | rfl | simp

@[simp] theorem pausePeer_keeps (p : Port) (t : BitVec 16) (s : State) :
    (pausePeer p t s).directory = s.directory ∧ (pausePeer p t s).stations = s.stations ∧
    (pausePeer p t s).forwarding = s.forwarding ∧ (pausePeer p t s).relief = s.relief ∧
    (pausePeer p t s).measurement = s.measurement ∧ (pausePeer p t s).billing = s.billing ∧
    (pausePeer p t s).now = s.now ∧ (pausePeer p t s).freeCount = s.freeCount ∧
    (pausePeer p t s).pending = s.pending ∧ (pausePeer p t s).link = s.link := by
  simp only [pausePeer]
  repeat' split
  all_goals first | rfl | simp

@[simp] theorem countBeacon_keeps (p : Port) (c : Fin 4) (s : State) :
    (countBeacon p c s).directory = s.directory ∧ (countBeacon p c s).stations = s.stations ∧
    (countBeacon p c s).forwarding = s.forwarding ∧ (countBeacon p c s).buffer = s.buffer ∧
    (countBeacon p c s).relief = s.relief ∧ (countBeacon p c s).measurement = s.measurement ∧
    (countBeacon p c s).billing = s.billing ∧ (countBeacon p c s).now = s.now ∧
    (countBeacon p c s).lineOut = s.lineOut ∧ (countBeacon p c s).freeCount = s.freeCount ∧
    (countBeacon p c s).pending = s.pending ∧ (countBeacon p c s).link = s.link := by
  simp only [countBeacon]
  first | rfl | simp

@[simp] theorem checkBeacon_keeps (p : Port) (c : Fin 4) (s : State) :
    (checkBeacon p c s).directory = s.directory ∧ (checkBeacon p c s).relief.settings = s.relief.settings ∧
    (checkBeacon p c s).now = s.now ∧ (checkBeacon p c s).freeCount = s.freeCount ∧
    (checkBeacon p c s).pending = s.pending ∧ (checkBeacon p c s).link.rx = s.link.rx ∧
    (checkBeacon p c s).link.gap = s.link.gap ∧ (checkBeacon p c s).link.places = s.link.places ∧
    (checkBeacon p c s).link.overflow = s.link.overflow ∧
    (checkBeacon p c s).link.sending = s.link.sending ∧
    (checkBeacon p c s).link.noticeCount = s.link.noticeCount ∧
    (checkBeacon p c s).link.mask = s.link.mask ∧ (checkBeacon p c s).link.linkErrors = s.link.linkErrors ∧
    (checkBeacon p c s).link.restartRecord = s.link.restartRecord ∧
    (checkBeacon p c s).link.inRestart = s.link.inRestart ∧
    (checkBeacon p c s).link.restartHanded = s.link.restartHanded ∧
    (checkBeacon p c s).link.restartLineHigh = s.link.restartLineHigh := by
  simp only [checkBeacon]
  repeat' split
  all_goals first | rfl | simp

@[simp] theorem beaconArrival_keeps (p : Port) (c : Fin 4) (s : State) :
    (beaconArrival p c s).directory = s.directory ∧
    (beaconArrival p c s).relief.settings = s.relief.settings ∧ (beaconArrival p c s).now = s.now ∧
    (beaconArrival p c s).freeCount = s.freeCount ∧ (beaconArrival p c s).pending = s.pending ∧
    (beaconArrival p c s).link.rx = s.link.rx ∧ (beaconArrival p c s).link.gap = s.link.gap ∧
    (beaconArrival p c s).link.places = s.link.places ∧
    (beaconArrival p c s).link.overflow = s.link.overflow ∧
    (beaconArrival p c s).link.sending = s.link.sending ∧
    (beaconArrival p c s).link.noticeCount = s.link.noticeCount ∧
    (beaconArrival p c s).link.mask = s.link.mask ∧
    (beaconArrival p c s).link.linkErrors = s.link.linkErrors ∧
    (beaconArrival p c s).link.restartRecord = s.link.restartRecord ∧
    (beaconArrival p c s).link.inRestart = s.link.inRestart ∧
    (beaconArrival p c s).link.restartHanded = s.link.restartHanded ∧
    (beaconArrival p c s).link.restartLineHigh = s.link.restartLineHigh := by
  simp only [beaconArrival]
  repeat' split
  all_goals first | rfl | simp

@[simp] theorem nextBeacon_keeps (p : Port) (s : State) :
    (nextBeacon p s).directory = s.directory ∧ (nextBeacon p s).stations = s.stations ∧
    (nextBeacon p s).forwarding = s.forwarding ∧ (nextBeacon p s).buffer = s.buffer ∧
    (nextBeacon p s).relief = s.relief ∧ (nextBeacon p s).measurement = s.measurement ∧
    (nextBeacon p s).billing = s.billing ∧ (nextBeacon p s).now = s.now ∧
    (nextBeacon p s).freeCount = s.freeCount ∧ (nextBeacon p s).pending = s.pending ∧
    (nextBeacon p s).link = s.link := by
  simp only [nextBeacon]
  first | rfl | simp

@[simp] theorem becomeQuiet_keeps (p : Port) (s : State) :
    (becomeQuiet p s).directory = s.directory ∧ (becomeQuiet p s).stations = s.stations ∧
    (becomeQuiet p s).forwarding = s.forwarding ∧ (becomeQuiet p s).buffer = s.buffer ∧
    (becomeQuiet p s).relief = s.relief ∧ (becomeQuiet p s).measurement = s.measurement ∧
    (becomeQuiet p s).billing = s.billing ∧ (becomeQuiet p s).now = s.now ∧
    (becomeQuiet p s).lineOut = s.lineOut ∧ (becomeQuiet p s).freeCount = s.freeCount ∧
    (becomeQuiet p s).pending = s.pending ∧ (becomeQuiet p s).link.rx = s.link.rx ∧
    (becomeQuiet p s).link.gap = s.link.gap ∧ (becomeQuiet p s).link.places = s.link.places ∧
    (becomeQuiet p s).link.overflow = s.link.overflow ∧ (becomeQuiet p s).link.sending = s.link.sending ∧
    (becomeQuiet p s).link.noticeCount = s.link.noticeCount ∧ (becomeQuiet p s).link.mask = s.link.mask ∧
    (becomeQuiet p s).link.linkErrors = s.link.linkErrors ∧
    (becomeQuiet p s).link.restartRecord = s.link.restartRecord ∧
    (becomeQuiet p s).link.inRestart = s.link.inRestart ∧
    (becomeQuiet p s).link.restartHanded = s.link.restartHanded ∧
    (becomeQuiet p s).link.restartLineHigh = s.link.restartLineHigh := by
  simp only [becomeQuiet]
  first | rfl | simp

@[simp] theorem dropLine_keeps (p : Port) (s : State) :
    (dropLine p s).directory = s.directory ∧ (dropLine p s).relief.settings = s.relief.settings ∧
    (dropLine p s).now = s.now ∧ (dropLine p s).freeCount = s.freeCount ∧
    (dropLine p s).pending = s.pending ∧ (dropLine p s).link.rx = s.link.rx ∧
    (dropLine p s).link.gap = s.link.gap ∧ (dropLine p s).link.places = s.link.places ∧
    (dropLine p s).link.overflow = s.link.overflow ∧ (dropLine p s).link.sending = s.link.sending ∧
    (dropLine p s).link.noticeCount = s.link.noticeCount ∧ (dropLine p s).link.mask = s.link.mask ∧
    (dropLine p s).link.linkErrors = s.link.linkErrors ∧
    (dropLine p s).link.restartRecord = s.link.restartRecord ∧
    (dropLine p s).link.inRestart = s.link.inRestart ∧
    (dropLine p s).link.restartHanded = s.link.restartHanded ∧
    (dropLine p s).link.restartLineHigh = s.link.restartLineHigh := by
  simp only [dropLine]
  repeat' split
  all_goals first | rfl | simp

@[simp] theorem raiseLine_keeps (p : Port) (s : State) :
    (raiseLine p s).directory = s.directory ∧ (raiseLine p s).stations = s.stations ∧
    (raiseLine p s).forwarding = s.forwarding ∧ (raiseLine p s).buffer = s.buffer ∧
    (raiseLine p s).relief = s.relief ∧ (raiseLine p s).measurement = s.measurement ∧
    (raiseLine p s).billing = s.billing ∧ (raiseLine p s).now = s.now ∧
    (raiseLine p s).lineOut = s.lineOut ∧ (raiseLine p s).freeCount = s.freeCount ∧
    (raiseLine p s).pending = s.pending ∧ (raiseLine p s).link = s.link := by
  simp only [raiseLine]
  repeat' split
  all_goals first | rfl | simp

@[simp] theorem enterProbing_keeps (p : Port) (s : State) :
    (enterProbing p s).directory = s.directory ∧ (enterProbing p s).stations = s.stations ∧
    (enterProbing p s).forwarding = s.forwarding ∧ (enterProbing p s).buffer = s.buffer ∧
    (enterProbing p s).relief = s.relief ∧ (enterProbing p s).billing = s.billing ∧
    (enterProbing p s).now = s.now ∧ (enterProbing p s).lineOut = s.lineOut ∧
    (enterProbing p s).freeCount = s.freeCount ∧ (enterProbing p s).pending = s.pending ∧
    (enterProbing p s).link.rx = s.link.rx ∧ (enterProbing p s).link.gap = s.link.gap ∧
    (enterProbing p s).link.places = s.link.places ∧ (enterProbing p s).link.overflow = s.link.overflow ∧
    (enterProbing p s).link.sending = s.link.sending ∧
    (enterProbing p s).link.noticeCount = s.link.noticeCount ∧ (enterProbing p s).link.mask = s.link.mask ∧
    (enterProbing p s).link.linkErrors = s.link.linkErrors ∧
    (enterProbing p s).link.restartRecord = s.link.restartRecord ∧
    (enterProbing p s).link.inRestart = s.link.inRestart ∧
    (enterProbing p s).link.restartHanded = s.link.restartHanded ∧
    (enterProbing p s).link.restartLineHigh = s.link.restartLineHigh := by
  simp only [enterProbing]
  first | rfl | simp

@[simp] theorem detectBreak_keeps (p : Port) (s : State) :
    (detectBreak p s).directory = s.directory ∧ (detectBreak p s).relief.settings = s.relief.settings ∧
    (detectBreak p s).now = s.now ∧ (detectBreak p s).freeCount = s.freeCount ∧
    (detectBreak p s).pending = s.pending ∧ (detectBreak p s).link.rx = s.link.rx ∧
    (detectBreak p s).link.gap = s.link.gap ∧ (detectBreak p s).link.places = s.link.places ∧
    (detectBreak p s).link.overflow = s.link.overflow ∧ (detectBreak p s).link.sending = s.link.sending ∧
    (detectBreak p s).link.noticeCount = s.link.noticeCount ∧ (detectBreak p s).link.mask = s.link.mask ∧
    (detectBreak p s).link.linkErrors = s.link.linkErrors ∧
    (detectBreak p s).link.restartRecord = s.link.restartRecord ∧
    (detectBreak p s).link.inRestart = s.link.inRestart ∧
    (detectBreak p s).link.restartHanded = s.link.restartHanded ∧
    (detectBreak p s).link.restartLineHigh = s.link.restartLineHigh := by
  simp only [detectBreak]
  repeat' split
  all_goals first | rfl | simp

@[simp] theorem endReceivedBreak_keeps (p : Port) (s : State) :
    (endReceivedBreak p s).directory = s.directory ∧
    (endReceivedBreak p s).relief.settings = s.relief.settings ∧ (endReceivedBreak p s).now = s.now ∧
    (endReceivedBreak p s).freeCount = s.freeCount ∧ (endReceivedBreak p s).pending = s.pending ∧
    (endReceivedBreak p s).link.rx = s.link.rx ∧ (endReceivedBreak p s).link.gap = s.link.gap ∧
    (endReceivedBreak p s).link.places = s.link.places ∧
    (endReceivedBreak p s).link.overflow = s.link.overflow ∧
    (endReceivedBreak p s).link.sending = s.link.sending ∧
    (endReceivedBreak p s).link.noticeCount = s.link.noticeCount ∧
    (endReceivedBreak p s).link.mask = s.link.mask ∧
    (endReceivedBreak p s).link.linkErrors = s.link.linkErrors ∧
    (endReceivedBreak p s).link.restartRecord = s.link.restartRecord ∧
    (endReceivedBreak p s).link.inRestart = s.link.inRestart ∧
    (endReceivedBreak p s).link.restartHanded = s.link.restartHanded ∧
    (endReceivedBreak p s).link.restartLineHigh = s.link.restartLineHigh := by
  simp only [endReceivedBreak]
  repeat' split
  all_goals first | rfl | simp

@[simp] theorem nextErrorWindow_keeps (p : Port) (s : State) :
    (nextErrorWindow p s).directory = s.directory ∧ (nextErrorWindow p s).stations = s.stations ∧
    (nextErrorWindow p s).forwarding = s.forwarding ∧ (nextErrorWindow p s).buffer = s.buffer ∧
    (nextErrorWindow p s).relief = s.relief ∧ (nextErrorWindow p s).measurement = s.measurement ∧
    (nextErrorWindow p s).billing = s.billing ∧ (nextErrorWindow p s).now = s.now ∧
    (nextErrorWindow p s).lineOut = s.lineOut ∧ (nextErrorWindow p s).freeCount = s.freeCount ∧
    (nextErrorWindow p s).pending = s.pending ∧ (nextErrorWindow p s).link = s.link := by
  simp only [nextErrorWindow]
  first | rfl | simp

@[simp] theorem completeSteady_keeps (p : Port) (s : State) :
    (completeSteady p s).directory = s.directory ∧ (completeSteady p s).stations = s.stations ∧
    (completeSteady p s).forwarding = s.forwarding ∧ (completeSteady p s).buffer = s.buffer ∧
    (completeSteady p s).relief = s.relief ∧ (completeSteady p s).measurement = s.measurement ∧
    (completeSteady p s).billing = s.billing ∧ (completeSteady p s).now = s.now ∧
    (completeSteady p s).lineOut = s.lineOut ∧ (completeSteady p s).freeCount = s.freeCount ∧
    (completeSteady p s).pending = s.pending ∧ (completeSteady p s).link = s.link := by
  simp only [completeSteady]
  first | rfl | simp

@[simp] theorem closeFlapWindow_keeps (p : Port) (s : State) :
    (closeFlapWindow p s).directory = s.directory ∧ (closeFlapWindow p s).stations = s.stations ∧
    (closeFlapWindow p s).forwarding = s.forwarding ∧ (closeFlapWindow p s).buffer = s.buffer ∧
    (closeFlapWindow p s).relief = s.relief ∧ (closeFlapWindow p s).measurement = s.measurement ∧
    (closeFlapWindow p s).billing = s.billing ∧ (closeFlapWindow p s).now = s.now ∧
    (closeFlapWindow p s).lineOut = s.lineOut ∧ (closeFlapWindow p s).freeCount = s.freeCount ∧
    (closeFlapWindow p s).pending = s.pending ∧ (closeFlapWindow p s).link = s.link := by
  simp only [closeFlapWindow]
  first | rfl | simp

@[simp] theorem endHolddown_keeps (p : Port) (s : State) :
    (endHolddown p s).directory = s.directory ∧ (endHolddown p s).stations = s.stations ∧
    (endHolddown p s).forwarding = s.forwarding ∧ (endHolddown p s).buffer = s.buffer ∧
    (endHolddown p s).relief = s.relief ∧ (endHolddown p s).measurement = s.measurement ∧
    (endHolddown p s).billing = s.billing ∧ (endHolddown p s).now = s.now ∧
    (endHolddown p s).freeCount = s.freeCount ∧ (endHolddown p s).pending = s.pending ∧
    (endHolddown p s).link.rx = s.link.rx ∧ (endHolddown p s).link.gap = s.link.gap ∧
    (endHolddown p s).link.places = s.link.places ∧ (endHolddown p s).link.overflow = s.link.overflow ∧
    (endHolddown p s).link.sending = s.link.sending ∧
    (endHolddown p s).link.noticeCount = s.link.noticeCount ∧ (endHolddown p s).link.mask = s.link.mask ∧
    (endHolddown p s).link.linkErrors = s.link.linkErrors ∧
    (endHolddown p s).link.restartRecord = s.link.restartRecord ∧
    (endHolddown p s).link.inRestart = s.link.inRestart ∧
    (endHolddown p s).link.restartHanded = s.link.restartHanded ∧
    (endHolddown p s).link.restartLineHigh = s.link.restartLineHigh := by
  simp only [endHolddown]
  first | rfl | simp

@[simp] theorem takeResult_keeps (p : Port) (id m : Nat) (s : State) :
    (takeResult p id m s).directory = s.directory ∧
    (takeResult p id m s).relief.settings = s.relief.settings ∧ (takeResult p id m s).now = s.now ∧
    (takeResult p id m s).freeCount = s.freeCount ∧ (takeResult p id m s).pending = s.pending ∧
    (takeResult p id m s).link.rx = s.link.rx ∧ (takeResult p id m s).link.gap = s.link.gap ∧
    (takeResult p id m s).link.places = s.link.places ∧
    (takeResult p id m s).link.overflow = s.link.overflow ∧
    (takeResult p id m s).link.sending = s.link.sending ∧
    (takeResult p id m s).link.noticeCount = s.link.noticeCount ∧
    (takeResult p id m s).link.mask = s.link.mask ∧
    (takeResult p id m s).link.linkErrors = s.link.linkErrors ∧
    (takeResult p id m s).link.restartRecord = s.link.restartRecord ∧
    (takeResult p id m s).link.inRestart = s.link.inRestart ∧
    (takeResult p id m s).link.restartHanded = s.link.restartHanded ∧
    (takeResult p id m s).link.restartLineHigh = s.link.restartLineHigh := by
  simp only [takeResult]
  repeat' split
  all_goals first | rfl | simp

@[simp] theorem deliverResult_keeps (r : MeasureRequest) (m : Nat) (s : State) :
    (deliverResult r m s).directory = s.directory ∧
    (deliverResult r m s).relief.settings = s.relief.settings ∧ (deliverResult r m s).now = s.now ∧
    (deliverResult r m s).freeCount = s.freeCount ∧ (deliverResult r m s).pending = s.pending ∧
    (deliverResult r m s).link.rx = s.link.rx ∧ (deliverResult r m s).link.gap = s.link.gap ∧
    (deliverResult r m s).link.places = s.link.places ∧
    (deliverResult r m s).link.overflow = s.link.overflow ∧
    (deliverResult r m s).link.sending = s.link.sending ∧
    (deliverResult r m s).link.noticeCount = s.link.noticeCount ∧
    (deliverResult r m s).link.mask = s.link.mask ∧
    (deliverResult r m s).link.linkErrors = s.link.linkErrors ∧
    (deliverResult r m s).link.restartRecord = s.link.restartRecord ∧
    (deliverResult r m s).link.inRestart = s.link.inRestart ∧
    (deliverResult r m s).link.restartHanded = s.link.restartHanded ∧
    (deliverResult r m s).link.restartLineHigh = s.link.restartLineHigh := by
  simp only [deliverResult]
  repeat' split
  all_goals first | rfl | simp

@[simp] theorem completeMeasurement_keeps (raw : Byte) (s : State) :
    (completeMeasurement raw s).directory = s.directory ∧
    (completeMeasurement raw s).relief.settings = s.relief.settings ∧
    (completeMeasurement raw s).now = s.now ∧ (completeMeasurement raw s).freeCount = s.freeCount ∧
    (completeMeasurement raw s).pending = s.pending ∧ (completeMeasurement raw s).link.rx = s.link.rx ∧
    (completeMeasurement raw s).link.gap = s.link.gap ∧
    (completeMeasurement raw s).link.places = s.link.places ∧
    (completeMeasurement raw s).link.overflow = s.link.overflow ∧
    (completeMeasurement raw s).link.sending = s.link.sending ∧
    (completeMeasurement raw s).link.noticeCount = s.link.noticeCount ∧
    (completeMeasurement raw s).link.mask = s.link.mask ∧
    (completeMeasurement raw s).link.linkErrors = s.link.linkErrors ∧
    (completeMeasurement raw s).link.restartRecord = s.link.restartRecord ∧
    (completeMeasurement raw s).link.inRestart = s.link.inRestart ∧
    (completeMeasurement raw s).link.restartHanded = s.link.restartHanded ∧
    (completeMeasurement raw s).link.restartLineHigh = s.link.restartLineHigh := by
  simp only [completeMeasurement]
  repeat' split
  all_goals first | rfl | simp

@[simp] theorem chargePort_keeps (n : Nat) (p : Port) (s : State) :
    (chargePort n p s).directory = s.directory ∧ (chargePort n p s).stations = s.stations ∧
    (chargePort n p s).forwarding = s.forwarding ∧ (chargePort n p s).buffer = s.buffer ∧
    (chargePort n p s).relief = s.relief ∧ (chargePort n p s).ports = s.ports ∧
    (chargePort n p s).measurement = s.measurement ∧ (chargePort n p s).now = s.now ∧
    (chargePort n p s).lineOut = s.lineOut ∧ (chargePort n p s).freeCount = s.freeCount ∧
    (chargePort n p s).pending = s.pending ∧ (chargePort n p s).link = s.link := by
  simp only [chargePort]
  first | rfl | simp

@[simp] theorem chargePacing_keeps (n : Nat) (s : State) :
    (chargePacing n s).directory = s.directory ∧ (chargePacing n s).stations = s.stations ∧
    (chargePacing n s).forwarding = s.forwarding ∧ (chargePacing n s).buffer = s.buffer ∧
    (chargePacing n s).relief = s.relief ∧ (chargePacing n s).ports = s.ports ∧
    (chargePacing n s).measurement = s.measurement ∧ (chargePacing n s).now = s.now ∧
    (chargePacing n s).lineOut = s.lineOut ∧ (chargePacing n s).freeCount = s.freeCount ∧
    (chargePacing n s).pending = s.pending ∧ (chargePacing n s).link = s.link := by
  simp only [chargePacing]
  exact ⟨foldl_keeps (g := fun t : State => t.directory) (fun t a => by simp) _ _,
    foldl_keeps (g := fun t : State => t.stations) (fun t a => by simp) _ _,
    foldl_keeps (g := fun t : State => t.forwarding) (fun t a => by simp) _ _,
    foldl_keeps (g := fun t : State => t.buffer) (fun t a => by simp) _ _,
    foldl_keeps (g := fun t : State => t.relief) (fun t a => by simp) _ _,
    foldl_keeps (g := fun t : State => t.ports) (fun t a => by simp) _ _,
    foldl_keeps (g := fun t : State => t.measurement) (fun t a => by simp) _ _,
    foldl_keeps (g := fun t : State => t.now) (fun t a => by simp) _ _,
    foldl_keeps (g := fun t : State => t.lineOut) (fun t a => by simp) _ _,
    foldl_keeps (g := fun t : State => t.freeCount) (fun t a => by simp) _ _,
    foldl_keeps (g := fun t : State => t.pending) (fun t a => by simp) _ _,
    foldl_keeps (g := fun t : State => t.link) (fun t a => by simp) _ _⟩

@[simp] theorem passTimers_keeps (n : Nat) (s : State) :
    (passTimers n s).directory = s.directory ∧ (passTimers n s).forwarding = s.forwarding ∧
    (passTimers n s).buffer = s.buffer ∧ (passTimers n s).relief.settings = s.relief.settings ∧
    (passTimers n s).lineOut = s.lineOut ∧ (passTimers n s).freeCount = s.freeCount ∧
    (passTimers n s).pending = s.pending ∧ (passTimers n s).link.rx = s.link.rx ∧
    (passTimers n s).link.places = s.link.places ∧ (passTimers n s).link.overflow = s.link.overflow ∧
    (passTimers n s).link.sending = s.link.sending ∧
    (passTimers n s).link.noticeCount = s.link.noticeCount ∧ (passTimers n s).link.mask = s.link.mask ∧
    (passTimers n s).link.linkErrors = s.link.linkErrors ∧
    (passTimers n s).link.restartRecord = s.link.restartRecord ∧
    (passTimers n s).link.inRestart = s.link.inRestart ∧
    (passTimers n s).link.restartHanded = s.link.restartHanded ∧
    (passTimers n s).link.restartLineHigh = s.link.restartLineHigh ∧
    (passTimers n s).link.notices = s.link.notices := by
  simp only [passTimers]
  first | rfl | simp

@[simp] theorem passTicks_keeps (n : Nat) (s : State) :
    (passTicks n s).directory = s.directory ∧ (passTicks n s).forwarding = s.forwarding ∧
    (passTicks n s).buffer = s.buffer ∧ (passTicks n s).relief.settings = s.relief.settings ∧
    (passTicks n s).lineOut = s.lineOut ∧ (passTicks n s).freeCount = s.freeCount ∧
    (passTicks n s).pending = s.pending ∧ (passTicks n s).link.rx = s.link.rx ∧
    (passTicks n s).link.places = s.link.places ∧ (passTicks n s).link.overflow = s.link.overflow ∧
    (passTicks n s).link.sending = s.link.sending ∧ (passTicks n s).link.noticeCount = s.link.noticeCount ∧
    (passTicks n s).link.mask = s.link.mask ∧ (passTicks n s).link.linkErrors = s.link.linkErrors ∧
    (passTicks n s).link.restartRecord = s.link.restartRecord ∧
    (passTicks n s).link.inRestart = s.link.inRestart ∧
    (passTicks n s).link.restartHanded = s.link.restartHanded ∧
    (passTicks n s).link.restartLineHigh = s.link.restartLineHigh ∧
    (passTicks n s).link.notices = s.link.notices := by
  simp only [passTicks]
  first | rfl | simp

@[simp] theorem handRequest_keeps (kind : Byte) (body : List Byte) (s : State) :
    (handRequest kind body s).1.now = s.now ∧ (handRequest kind body s).1.pending = s.pending ∧
    (handRequest kind body s).1.link.rx = s.link.rx ∧ (handRequest kind body s).1.link.gap = s.link.gap ∧
    (handRequest kind body s).1.link.places = s.link.places ∧
    (handRequest kind body s).1.link.overflow = s.link.overflow ∧
    (handRequest kind body s).1.link.sending = s.link.sending ∧
    (handRequest kind body s).1.link.noticeCount = s.link.noticeCount ∧
    (handRequest kind body s).1.link.linkErrors = s.link.linkErrors ∧
    (handRequest kind body s).1.link.restartRecord = s.link.restartRecord ∧
    (handRequest kind body s).1.link.inRestart = s.link.inRestart ∧
    (handRequest kind body s).1.link.restartLineHigh = s.link.restartLineHigh := by
  simp only [handRequest]
  repeat' split
  all_goals first | rfl | simp

@[simp] theorem serve_keeps (kind : Byte) (body : List Byte) (s : State) :
    (serve kind body s).1.now = s.now ∧ (serve kind body s).1.pending = s.pending ∧
    (serve kind body s).1.link.rx = s.link.rx ∧ (serve kind body s).1.link.gap = s.link.gap ∧
    (serve kind body s).1.link.places = s.link.places ∧
    (serve kind body s).1.link.overflow = s.link.overflow ∧
    (serve kind body s).1.link.sending = s.link.sending ∧
    (serve kind body s).1.link.noticeCount = s.link.noticeCount ∧
    (serve kind body s).1.link.linkErrors = s.link.linkErrors ∧
    (serve kind body s).1.link.restartRecord = s.link.restartRecord ∧
    (serve kind body s).1.link.inRestart = s.link.inRestart ∧
    (serve kind body s).1.link.restartLineHigh = s.link.restartLineHigh := by
  simp only [serve]
  repeat' split
  all_goals first | rfl | simp

@[simp] theorem countLinkError_keeps (s : State) :
    (countLinkError s).directory = s.directory ∧ (countLinkError s).stations = s.stations ∧
    (countLinkError s).forwarding = s.forwarding ∧ (countLinkError s).buffer = s.buffer ∧
    (countLinkError s).relief = s.relief ∧ (countLinkError s).ports = s.ports ∧
    (countLinkError s).measurement = s.measurement ∧ (countLinkError s).billing = s.billing ∧
    (countLinkError s).now = s.now ∧ (countLinkError s).lineOut = s.lineOut ∧
    (countLinkError s).freeCount = s.freeCount ∧ (countLinkError s).pending = s.pending ∧
    (countLinkError s).link.rx = s.link.rx ∧ (countLinkError s).link.gap = s.link.gap ∧
    (countLinkError s).link.places = s.link.places ∧ (countLinkError s).link.overflow = s.link.overflow ∧
    (countLinkError s).link.sending = s.link.sending ∧
    (countLinkError s).link.noticeCount = s.link.noticeCount ∧ (countLinkError s).link.mask = s.link.mask ∧
    (countLinkError s).link.restartRecord = s.link.restartRecord ∧
    (countLinkError s).link.inRestart = s.link.inRestart ∧
    (countLinkError s).link.restartHanded = s.link.restartHanded ∧
    (countLinkError s).link.restartLineHigh = s.link.restartLineHigh ∧
    (countLinkError s).link.notices = s.link.notices := by
  simp only [countLinkError]
  first | rfl | simp

@[simp] theorem hunt_keeps (s : State) :
    (hunt s).directory = s.directory ∧ (hunt s).stations = s.stations ∧
    (hunt s).forwarding = s.forwarding ∧ (hunt s).buffer = s.buffer ∧ (hunt s).relief = s.relief ∧
    (hunt s).ports = s.ports ∧ (hunt s).measurement = s.measurement ∧ (hunt s).billing = s.billing ∧
    (hunt s).now = s.now ∧ (hunt s).lineOut = s.lineOut ∧ (hunt s).freeCount = s.freeCount ∧
    (hunt s).pending = s.pending ∧ (hunt s).link.places = s.link.places ∧
    (hunt s).link.overflow = s.link.overflow ∧ (hunt s).link.sending = s.link.sending ∧
    (hunt s).link.noticeCount = s.link.noticeCount ∧ (hunt s).link.mask = s.link.mask ∧
    (hunt s).link.linkErrors = s.link.linkErrors ∧ (hunt s).link.restartRecord = s.link.restartRecord ∧
    (hunt s).link.inRestart = s.link.inRestart ∧ (hunt s).link.restartHanded = s.link.restartHanded ∧
    (hunt s).link.restartLineHigh = s.link.restartLineHigh ∧ (hunt s).link.notices = s.link.notices := by
  simp only [hunt]
  first | rfl | simp

@[simp] theorem gapTimeout_keeps (s : State) :
    (gapTimeout s).directory = s.directory ∧ (gapTimeout s).stations = s.stations ∧
    (gapTimeout s).forwarding = s.forwarding ∧ (gapTimeout s).buffer = s.buffer ∧
    (gapTimeout s).relief = s.relief ∧ (gapTimeout s).ports = s.ports ∧
    (gapTimeout s).measurement = s.measurement ∧ (gapTimeout s).billing = s.billing ∧
    (gapTimeout s).now = s.now ∧ (gapTimeout s).lineOut = s.lineOut ∧
    (gapTimeout s).freeCount = s.freeCount ∧ (gapTimeout s).pending = s.pending ∧
    (gapTimeout s).link.places = s.link.places ∧ (gapTimeout s).link.overflow = s.link.overflow ∧
    (gapTimeout s).link.sending = s.link.sending ∧ (gapTimeout s).link.noticeCount = s.link.noticeCount ∧
    (gapTimeout s).link.mask = s.link.mask ∧ (gapTimeout s).link.restartRecord = s.link.restartRecord ∧
    (gapTimeout s).link.inRestart = s.link.inRestart ∧
    (gapTimeout s).link.restartHanded = s.link.restartHanded ∧
    (gapTimeout s).link.restartLineHigh = s.link.restartLineHigh ∧
    (gapTimeout s).link.notices = s.link.notices := by
  simp only [gapTimeout]
  repeat' split
  all_goals first | rfl | simp

@[simp] theorem holdPlace_keeps (m : Message) (r : Option (List Byte)) (s : State) :
    (holdPlace m r s).directory = s.directory ∧ (holdPlace m r s).stations = s.stations ∧
    (holdPlace m r s).forwarding = s.forwarding ∧ (holdPlace m r s).buffer = s.buffer ∧
    (holdPlace m r s).relief = s.relief ∧ (holdPlace m r s).ports = s.ports ∧
    (holdPlace m r s).measurement = s.measurement ∧ (holdPlace m r s).billing = s.billing ∧
    (holdPlace m r s).now = s.now ∧ (holdPlace m r s).lineOut = s.lineOut ∧
    (holdPlace m r s).freeCount = s.freeCount ∧ (holdPlace m r s).pending = s.pending ∧
    (holdPlace m r s).link.rx = s.link.rx ∧ (holdPlace m r s).link.gap = s.link.gap ∧
    (holdPlace m r s).link.overflow = s.link.overflow ∧ (holdPlace m r s).link.sending = s.link.sending ∧
    (holdPlace m r s).link.noticeCount = s.link.noticeCount ∧ (holdPlace m r s).link.mask = s.link.mask ∧
    (holdPlace m r s).link.linkErrors = s.link.linkErrors ∧
    (holdPlace m r s).link.restartRecord = s.link.restartRecord ∧
    (holdPlace m r s).link.inRestart = s.link.inRestart ∧
    (holdPlace m r s).link.restartHanded = s.link.restartHanded ∧
    (holdPlace m r s).link.restartLineHigh = s.link.restartLineHigh ∧
    (holdPlace m r s).link.notices = s.link.notices := by
  simp only [holdPlace]
  first | rfl | simp

@[simp] theorem overflowFrame_keeps (m : Message) (s : State) :
    (overflowFrame m s).directory = s.directory ∧ (overflowFrame m s).stations = s.stations ∧
    (overflowFrame m s).forwarding = s.forwarding ∧ (overflowFrame m s).buffer = s.buffer ∧
    (overflowFrame m s).relief = s.relief ∧ (overflowFrame m s).ports = s.ports ∧
    (overflowFrame m s).measurement = s.measurement ∧ (overflowFrame m s).billing = s.billing ∧
    (overflowFrame m s).now = s.now ∧ (overflowFrame m s).lineOut = s.lineOut ∧
    (overflowFrame m s).freeCount = s.freeCount ∧ (overflowFrame m s).pending = s.pending ∧
    (overflowFrame m s).link.rx = s.link.rx ∧ (overflowFrame m s).link.gap = s.link.gap ∧
    (overflowFrame m s).link.places = s.link.places ∧ (overflowFrame m s).link.sending = s.link.sending ∧
    (overflowFrame m s).link.noticeCount = s.link.noticeCount ∧
    (overflowFrame m s).link.mask = s.link.mask ∧
    (overflowFrame m s).link.restartRecord = s.link.restartRecord ∧
    (overflowFrame m s).link.inRestart = s.link.inRestart ∧
    (overflowFrame m s).link.restartHanded = s.link.restartHanded ∧
    (overflowFrame m s).link.restartLineHigh = s.link.restartLineHigh ∧
    (overflowFrame m s).link.notices = s.link.notices := by
  simp only [overflowFrame]
  repeat' split
  all_goals first | rfl | simp

@[simp] theorem takeFrame_keeps (m : Message) (s : State) :
    (takeFrame m s).now = s.now ∧ (takeFrame m s).pending = s.pending ∧
    (takeFrame m s).link.rx = s.link.rx ∧ (takeFrame m s).link.gap = s.link.gap ∧
    (takeFrame m s).link.sending = s.link.sending ∧ (takeFrame m s).link.noticeCount = s.link.noticeCount ∧
    (takeFrame m s).link.restartRecord = s.link.restartRecord ∧
    (takeFrame m s).link.inRestart = s.link.inRestart ∧
    (takeFrame m s).link.restartLineHigh = s.link.restartLineHigh := by
  simp only [takeFrame]
  repeat' split
  all_goals first | rfl | simp

@[simp] theorem emptyLatched_keeps (x : PortSet) (s : State) :
    (emptyLatched x s).directory = s.directory ∧ (emptyLatched x s).stations = s.stations ∧
    (emptyLatched x s).forwarding = s.forwarding ∧ (emptyLatched x s).buffer = s.buffer ∧
    (emptyLatched x s).relief = s.relief ∧ (emptyLatched x s).measurement = s.measurement ∧
    (emptyLatched x s).billing = s.billing ∧ (emptyLatched x s).now = s.now ∧
    (emptyLatched x s).lineOut = s.lineOut ∧ (emptyLatched x s).freeCount = s.freeCount ∧
    (emptyLatched x s).pending = s.pending ∧ (emptyLatched x s).link = s.link := by
  simp only [emptyLatched]
  first | rfl | simp

@[simp] theorem takeNotice_keeps (k : NoticeKind) (s : State) :
    (takeNotice k s).directory = s.directory ∧ (takeNotice k s).stations = s.stations ∧
    (takeNotice k s).forwarding = s.forwarding ∧ (takeNotice k s).buffer = s.buffer ∧
    (takeNotice k s).relief = s.relief ∧ (takeNotice k s).measurement = s.measurement ∧
    (takeNotice k s).billing = s.billing ∧ (takeNotice k s).now = s.now ∧
    (takeNotice k s).lineOut = s.lineOut ∧ (takeNotice k s).freeCount = s.freeCount ∧
    (takeNotice k s).pending = s.pending ∧ (takeNotice k s).link.rx = s.link.rx ∧
    (takeNotice k s).link.gap = s.link.gap ∧ (takeNotice k s).link.places = s.link.places ∧
    (takeNotice k s).link.overflow = s.link.overflow ∧ (takeNotice k s).link.sending = s.link.sending ∧
    (takeNotice k s).link.noticeCount = s.link.noticeCount ∧ (takeNotice k s).link.mask = s.link.mask ∧
    (takeNotice k s).link.linkErrors = s.link.linkErrors ∧
    (takeNotice k s).link.restartRecord = s.link.restartRecord ∧
    (takeNotice k s).link.inRestart = s.link.inRestart ∧
    (takeNotice k s).link.restartHanded = s.link.restartHanded ∧
    (takeNotice k s).link.restartLineHigh = s.link.restartLineHigh := by
  simp only [takeNotice]
  repeat' split
  all_goals first | rfl | simp

@[simp] theorem startSending_keeps (x : SendSource) (m : Message) (s : State) :
    (startSending x m s).directory = s.directory ∧ (startSending x m s).stations = s.stations ∧
    (startSending x m s).forwarding = s.forwarding ∧ (startSending x m s).buffer = s.buffer ∧
    (startSending x m s).relief = s.relief ∧ (startSending x m s).ports = s.ports ∧
    (startSending x m s).measurement = s.measurement ∧ (startSending x m s).billing = s.billing ∧
    (startSending x m s).now = s.now ∧ (startSending x m s).lineOut = s.lineOut ∧
    (startSending x m s).freeCount = s.freeCount ∧ (startSending x m s).pending = s.pending ∧
    (startSending x m s).link.rx = s.link.rx ∧ (startSending x m s).link.gap = s.link.gap ∧
    (startSending x m s).link.places = s.link.places ∧
    (startSending x m s).link.overflow = s.link.overflow ∧
    (startSending x m s).link.noticeCount = s.link.noticeCount ∧
    (startSending x m s).link.mask = s.link.mask ∧
    (startSending x m s).link.linkErrors = s.link.linkErrors ∧
    (startSending x m s).link.restartRecord = s.link.restartRecord ∧
    (startSending x m s).link.inRestart = s.link.inRestart ∧
    (startSending x m s).link.restartHanded = s.link.restartHanded ∧
    (startSending x m s).link.restartLineHigh = s.link.restartLineHigh ∧
    (startSending x m s).link.notices = s.link.notices := by
  simp only [startSending]
  first | rfl | simp

@[simp] theorem sendNotice_keeps (k : NoticeKind) (b : List Byte) (s : State) :
    (sendNotice k b s).directory = s.directory ∧ (sendNotice k b s).stations = s.stations ∧
    (sendNotice k b s).forwarding = s.forwarding ∧ (sendNotice k b s).buffer = s.buffer ∧
    (sendNotice k b s).relief = s.relief ∧ (sendNotice k b s).measurement = s.measurement ∧
    (sendNotice k b s).billing = s.billing ∧ (sendNotice k b s).now = s.now ∧
    (sendNotice k b s).lineOut = s.lineOut ∧ (sendNotice k b s).freeCount = s.freeCount ∧
    (sendNotice k b s).pending = s.pending ∧ (sendNotice k b s).link.rx = s.link.rx ∧
    (sendNotice k b s).link.gap = s.link.gap ∧ (sendNotice k b s).link.places = s.link.places ∧
    (sendNotice k b s).link.overflow = s.link.overflow ∧ (sendNotice k b s).link.mask = s.link.mask ∧
    (sendNotice k b s).link.linkErrors = s.link.linkErrors ∧
    (sendNotice k b s).link.restartRecord = s.link.restartRecord ∧
    (sendNotice k b s).link.inRestart = s.link.inRestart ∧
    (sendNotice k b s).link.restartHanded = s.link.restartHanded ∧
    (sendNotice k b s).link.restartLineHigh = s.link.restartLineHigh := by
  simp only [sendNotice]
  first | rfl | simp

@[simp] theorem transmit_keeps (s : State) :
    (transmit s).directory = s.directory ∧ (transmit s).stations = s.stations ∧
    (transmit s).forwarding = s.forwarding ∧ (transmit s).buffer = s.buffer ∧
    (transmit s).relief = s.relief ∧ (transmit s).measurement = s.measurement ∧
    (transmit s).billing = s.billing ∧ (transmit s).now = s.now ∧ (transmit s).lineOut = s.lineOut ∧
    (transmit s).freeCount = s.freeCount ∧ (transmit s).pending = s.pending ∧
    (transmit s).link.rx = s.link.rx ∧ (transmit s).link.gap = s.link.gap ∧
    (transmit s).link.places = s.link.places ∧ (transmit s).link.overflow = s.link.overflow ∧
    (transmit s).link.mask = s.link.mask ∧ (transmit s).link.linkErrors = s.link.linkErrors ∧
    (transmit s).link.restartRecord = s.link.restartRecord ∧
    (transmit s).link.inRestart = s.link.inRestart ∧
    (transmit s).link.restartHanded = s.link.restartHanded ∧
    (transmit s).link.restartLineHigh = s.link.restartLineHigh := by
  simp only [transmit]
  repeat' split
  all_goals first | rfl | simp

@[simp] theorem conclude_keeps (b : State) (s : State) :
    (conclude b s).directory = s.directory ∧ (conclude b s).stations = s.stations ∧
    (conclude b s).forwarding = s.forwarding ∧ (conclude b s).buffer = s.buffer ∧
    (conclude b s).relief.settings = s.relief.settings ∧ (conclude b s).measurement = s.measurement ∧
    (conclude b s).billing = s.billing ∧ (conclude b s).now = s.now ∧
    (conclude b s).freeCount = s.freeCount ∧ (conclude b s).pending = s.pending ∧
    (conclude b s).link.rx = s.link.rx ∧ (conclude b s).link.gap = s.link.gap ∧
    (conclude b s).link.places = s.link.places ∧ (conclude b s).link.overflow = s.link.overflow ∧
    (conclude b s).link.mask = s.link.mask ∧ (conclude b s).link.linkErrors = s.link.linkErrors ∧
    (conclude b s).link.restartRecord = s.link.restartRecord ∧
    (conclude b s).link.inRestart = s.link.inRestart ∧
    (conclude b s).link.restartHanded = s.link.restartHanded ∧
    (conclude b s).link.restartLineHigh = s.link.restartLineHigh := by
  simp only [conclude]
  first | rfl | simp

end Sys2Proof.Machine
end

