-- ==== Sys2Proof/Laws/Numbers.lean ====
section
/-! SUPPORT. Reading back a number from the bytes it was written in. -/

namespace Sys2Proof.Machine

open Sys2Proof

/-- A number written in `width` bytes takes `width` bytes. -/
@[simp] theorem length_bytesOf (width v : Nat) : (bytesOf width v).length = width := by
  induction width with
  | zero => rfl
  | succ width ih => simp [bytesOf, ih]

/-- A number written in two bytes. -/
theorem bytesOf_two (v : Nat) : bytesOf 2 v = [BitVec.ofNat 8 (v / 256), BitVec.ofNat 8 v] := by
  simp [bytesOf]

/-- A number that fits in two bytes reads back from them, whatever stands around it. -/
theorem beNat_bytesOf_two (v : Nat) (h : v < 65536) :
    beNat [BitVec.ofNat 8 (v / 256), BitVec.ofNat 8 v] = v := by
  simp only [beNat, List.foldl_cons, List.foldl_nil, BitVec.toNat_ofNat]
  omega

/-- A field of a body that stands after another part is that field of the second part. -/
theorem field_append_right (xs ys : List Byte) (i width : Nat) (h : i = xs.length) :
    field (xs ++ ys) i width = beNat (ys.take width) := by
  subst h
  simp [field]

end Sys2Proof.Machine
end

