-- ==== Sys2Proof/Laws/Link.lean ====
section
/-! SUPPORT. The assembler reads back every frame that its sender wrote (R160, R161). -/

namespace Sys2Proof.Machine

open Sys2Proof

/-- The bytes after a marker that begin with a message's content and its check make that message, and
the bytes that follow are left over. -/
theorem frameOf_encode (m : Message) (after : List Byte) (h : m.body.length ≤ 1024) :
    frameOf (m.encode.tail ++ after) = .good m after := by
  obtain ⟨kind, tag, body⟩ := m
  simp only at h
  set check := crc16 (Message.content ⟨kind, tag, body⟩) with hc
  have hbytes : (Message.encode ⟨kind, tag, body⟩).tail ++ after =
      kind :: tag :: BitVec.ofNat 8 (body.length / 256) :: BitVec.ofNat 8 body.length ::
        (body ++ ([BitVec.ofNat 8 (check.toNat / 256), BitVec.ofNat 8 check.toNat] ++ after)) := by
    simp [Message.encode, Message.content, bytesOf_two, hc]
  have hcontent : Message.content ⟨kind, tag, body⟩ =
      kind :: tag :: BitVec.ofNat 8 (body.length / 256) :: BitVec.ofNat 8 body.length :: body := by
    simp [Message.content, bytesOf_two]
  have hn : beNat [BitVec.ofNat 8 (body.length / 256), BitVec.ofNat 8 body.length] = body.length :=
    beNat_bytesOf_two _ (by omega)
  have hk : beNat [BitVec.ofNat 8 (check.toNat / 256), BitVec.ofNat 8 check.toNat] = check.toNat :=
    beNat_bytesOf_two _ check.isLt
  rw [hbytes]
  have h4 : ¬ (kind :: tag :: BitVec.ofNat 8 (body.length / 256) :: BitVec.ofNat 8 body.length ::
        (body ++ ([BitVec.ofNat 8 (check.toNat / 256), BitVec.ofNat 8 check.toNat] ++ after))).length
        < 4 := by simp
  have hlen : field (kind :: tag :: BitVec.ofNat 8 (body.length / 256) ::
        BitVec.ofNat 8 body.length :: (body ++ ([BitVec.ofNat 8 (check.toNat / 256),
          BitVec.ofNat 8 check.toNat] ++ after))) 2 2 = body.length := by
    simpa [field] using hn
  rw [frameOf, if_neg h4]
  simp only [hlen]
  rw [if_neg (by omega), if_neg (by simp)]
  have htake : (kind :: tag :: BitVec.ofNat 8 (body.length / 256) ::
        BitVec.ofNat 8 body.length :: (body ++ ([BitVec.ofNat 8 (check.toNat / 256),
          BitVec.ofNat 8 check.toNat] ++ after))).take (4 + body.length) =
      Message.content ⟨kind, tag, body⟩ := by
    rw [hcontent, Nat.add_comm]
    simp
  have hcheck : field (kind :: tag :: BitVec.ofNat 8 (body.length / 256) ::
        BitVec.ofNat 8 body.length :: (body ++ ([BitVec.ofNat 8 (check.toNat / 256),
          BitVec.ofNat 8 check.toNat] ++ after))) (4 + body.length) 2 = check.toNat := by
    rw [field, Nat.add_comm]
    simpa using hk
  rw [htake, hcheck, if_pos (congrArg BitVec.toNat hc)]
  simp

/-- What follows a good frame is shorter than the bytes that hold the frame. -/
theorem length_of_good {bytes after : List Byte} {m : Message} (h : frameOf bytes = .good m after) :
    after.length + 6 ≤ bytes.length := by
  simp only [frameOf] at h
  split_ifs at h
  simp only [Frame.good.injEq] at h
  obtain ⟨-, rfl⟩ := h
  simp only [List.length_drop]
  omega

/-- As many steps as bytes are enough for the assembler. -/
theorem scan_of_le (fuel : Nat) (bytes : List Byte) (h : bytes.length ≤ fuel) :
    scan fuel bytes = scan bytes.length bytes := by
  induction fuel using Nat.strong_induction_on generalizing bytes with
  | _ fuel ih =>
    cases fuel with
    | zero => rw [Nat.le_zero.mp h]
    | succ n =>
      cases bytes with
      | nil => rfl
      | cons b rest =>
        simp only [List.length_cons] at h ⊢
        simp only [scan]
        by_cases hb : b = marker
        · simp only [if_pos hb]
          cases hf : frameOf rest with
          | unfinished => rfl
          | bad => simp only [ih n (by omega) rest (by omega)]
          | good m after =>
            have := length_of_good hf
            simp only [ih n (by omega) after (by omega), ih rest.length (by omega) after (by omega)]
        · simp only [if_neg hb, ih n (by omega) rest (by omega)]

/-- A frame alone, after its marker, is that message. -/
theorem frameOf_encode_alone (m : Message) (h : m.body.length ≤ 1024) :
    frameOf m.encode.tail = .good m [] := by
  simpa using frameOf_encode m [] h

end Sys2Proof.Machine
end

