-- ==== Sys2Proof/Laws/PerInstr.lean ====
section
/-! SUPPORT. Statements made for every command, one lemma per constructor. `LinkRequest`: the frame that a
command carries, sent in its envelope, is received as the same frame (R160, R161). -/

namespace Sys2Proof.Laws

open Sys2Proof Sys2Proof.Machine

/-- If a well-formed command carries a frame, the assembler reads that frame back from its bytes. -/
def LinkRequest.Statement (i : Instr) : Prop :=
  i.wellFormed = true → ∀ m, i.message? = some m → frameOf m.encode.tail = .good m []

/-- A well-formed command's frame has a body that the envelope admits. -/
theorem LinkRequest.of_wellFormed (i : Instr) : LinkRequest.Statement i := by
  intro hw m hm
  refine frameOf_encode_alone m ?_
  have hfit : frameFits i = true := by
    simp only [Instr.wellFormed, Bool.and_eq_true] at hw
    exact hw.1
  simpa [frameFits, hm] using hfit

theorem LinkRequest.tenantDefine (tag : Byte) (body : List Byte) :
    LinkRequest.Statement (.tenantDefine tag body) := of_wellFormed _

theorem LinkRequest.tenantRemove (tag : Byte) (body : List Byte) :
    LinkRequest.Statement (.tenantRemove tag body) := of_wellFormed _

theorem LinkRequest.tenantQuery (tag : Byte) (body : List Byte) :
    LinkRequest.Statement (.tenantQuery tag body) := of_wellFormed _

theorem LinkRequest.tenantBind (tag : Byte) (body : List Byte) :
    LinkRequest.Statement (.tenantBind tag body) := of_wellFormed _

theorem LinkRequest.segmentDefine (tag : Byte) (body : List Byte) :
    LinkRequest.Statement (.segmentDefine tag body) := of_wellFormed _

theorem LinkRequest.segmentRemove (tag : Byte) (body : List Byte) :
    LinkRequest.Statement (.segmentRemove tag body) := of_wellFormed _

theorem LinkRequest.stationAdd (tag : Byte) (body : List Byte) :
    LinkRequest.Statement (.stationAdd tag body) := of_wellFormed _

theorem LinkRequest.stationRemove (tag : Byte) (body : List Byte) :
    LinkRequest.Statement (.stationRemove tag body) := of_wellFormed _

theorem LinkRequest.stationFind (tag : Byte) (body : List Byte) :
    LinkRequest.Statement (.stationFind tag body) := of_wellFormed _

theorem LinkRequest.stationFlush (tag : Byte) (body : List Byte) :
    LinkRequest.Statement (.stationFlush tag body) := of_wellFormed _

theorem LinkRequest.stationStatus (tag : Byte) (body : List Byte) :
    LinkRequest.Statement (.stationStatus tag body) := of_wellFormed _

theorem LinkRequest.trunkGroup (tag : Byte) (body : List Byte) :
    LinkRequest.Statement (.trunkGroup tag body) := of_wellFormed _

theorem LinkRequest.forwardStatus (tag : Byte) (body : List Byte) :
    LinkRequest.Statement (.forwardStatus tag body) := of_wellFormed _

theorem LinkRequest.bufferQuery (tag : Byte) (body : List Byte) :
    LinkRequest.Statement (.bufferQuery tag body) := of_wellFormed _

theorem LinkRequest.reliefSet (tag : Byte) (body : List Byte) :
    LinkRequest.Statement (.reliefSet tag body) := of_wellFormed _

theorem LinkRequest.reliefQuery (tag : Byte) (body : List Byte) :
    LinkRequest.Statement (.reliefQuery tag body) := of_wellFormed _

theorem LinkRequest.portSet (tag : Byte) (body : List Byte) :
    LinkRequest.Statement (.portSet tag body) := of_wellFormed _

theorem LinkRequest.portAdjust (tag : Byte) (body : List Byte) :
    LinkRequest.Statement (.portAdjust tag body) := of_wellFormed _

theorem LinkRequest.enable (tag port : Byte) :
    LinkRequest.Statement (.enable tag port) := of_wellFormed _

theorem LinkRequest.disable (tag port : Byte) :
    LinkRequest.Statement (.disable tag port) := of_wellFormed _

theorem LinkRequest.portQuery (tag : Byte) (body : List Byte) :
    LinkRequest.Statement (.portQuery tag body) := of_wellFormed _

theorem LinkRequest.portRelease (tag : Byte) (body : List Byte) :
    LinkRequest.Statement (.portRelease tag body) := of_wellFormed _

theorem LinkRequest.portFaults (tag : Byte) (body : List Byte) :
    LinkRequest.Statement (.portFaults tag body) := of_wellFormed _

theorem LinkRequest.lineMeasure (tag : Byte) (body : List Byte) :
    LinkRequest.Statement (.lineMeasure tag body) := of_wellFormed _

theorem LinkRequest.lineCalibrate (tag : Byte) (body : List Byte) :
    LinkRequest.Statement (.lineCalibrate tag body) := of_wellFormed _

theorem LinkRequest.billStart (tag : Byte) (body : List Byte) :
    LinkRequest.Statement (.billStart tag body) := of_wellFormed _

theorem LinkRequest.billStop (tag : Byte) (body : List Byte) :
    LinkRequest.Statement (.billStop tag body) := of_wellFormed _

theorem LinkRequest.billHold (tag : Byte) (body : List Byte) :
    LinkRequest.Statement (.billHold tag body) := of_wellFormed _

theorem LinkRequest.billResume (tag : Byte) (body : List Byte) :
    LinkRequest.Statement (.billResume tag body) := of_wellFormed _

theorem LinkRequest.billClose (tag : Byte) (body : List Byte) :
    LinkRequest.Statement (.billClose tag body) := of_wellFormed _

theorem LinkRequest.billSet (tag : Byte) (body : List Byte) :
    LinkRequest.Statement (.billSet tag body) := of_wellFormed _

theorem LinkRequest.billDrain (tag : Byte) (body : List Byte) :
    LinkRequest.Statement (.billDrain tag body) := of_wellFormed _

theorem LinkRequest.billLock (tag : Byte) (body : List Byte) :
    LinkRequest.Statement (.billLock tag body) := of_wellFormed _

theorem LinkRequest.billQuery (tag : Byte) (body : List Byte) :
    LinkRequest.Statement (.billQuery tag body) := of_wellFormed _

theorem LinkRequest.noticeMask (tag : Byte) (body : List Byte) :
    LinkRequest.Statement (.noticeMask tag body) := of_wellFormed _

theorem LinkRequest.hello (tag : Byte) (body : List Byte) :
    LinkRequest.Statement (.hello tag body) := of_wellFormed _

theorem LinkRequest.restart (tag : Byte) (body : List Byte) :
    LinkRequest.Statement (.restart tag body) := of_wellFormed _

theorem LinkRequest.badKind (kind tag : Byte) (body : List Byte) :
    LinkRequest.Statement (.badKind kind tag body) := of_wellFormed _

theorem LinkRequest.requestOverflow (kind tag : Byte) (body : List Byte) :
    LinkRequest.Statement (.requestOverflow kind tag body) := of_wellFormed _

theorem LinkRequest.framingError (bytes : List Byte) :
    LinkRequest.Statement (.framingError bytes) := of_wellFormed _

theorem LinkRequest.byteGapTimeout (bytes : List Byte) :
    LinkRequest.Statement (.byteGapTimeout bytes) := of_wellFormed _

theorem LinkRequest.frameSendEnd : LinkRequest.Statement .frameSendEnd := of_wellFormed _

theorem LinkRequest.powerRestart : LinkRequest.Statement .powerRestart := of_wellFormed _

theorem LinkRequest.pinRestart : LinkRequest.Statement .pinRestart := of_wellFormed _

theorem LinkRequest.leaveRestart : LinkRequest.Statement .leaveRestart := of_wellFormed _

theorem LinkRequest.frameReceptionBegin (port : Port) :
    LinkRequest.Statement (.frameReceptionBegin port) := of_wellFormed _

theorem LinkRequest.dataFrameArrival (port : Port) (frame : DataFrame) :
    LinkRequest.Statement (.dataFrameArrival port frame) := of_wellFormed _

theorem LinkRequest.transmissionCompletion (port : Port) :
    LinkRequest.Statement (.transmissionCompletion port) := of_wellFormed _

theorem LinkRequest.pauseFrameReceived (port : Port) (time : BitVec 16) :
    LinkRequest.Statement (.pauseFrameReceived port time) := of_wellFormed _

theorem LinkRequest.releaseFrameReceived (port : Port) :
    LinkRequest.Statement (.releaseFrameReceived port) := of_wellFormed _

theorem LinkRequest.peerPauseExpiry (port : Port) :
    LinkRequest.Statement (.peerPauseExpiry port) := of_wellFormed _

theorem LinkRequest.beaconReceived (port : Port) (count : Fin 4) :
    LinkRequest.Statement (.beaconReceived port count) := of_wellFormed _

theorem LinkRequest.beaconTimerExpiry (port : Port) :
    LinkRequest.Statement (.beaconTimerExpiry port) := of_wellFormed _

theorem LinkRequest.errorWindowEnd (port : Port) :
    LinkRequest.Statement (.errorWindowEnd port) := of_wellFormed _

theorem LinkRequest.silenceTimerExpiry (port : Port) :
    LinkRequest.Statement (.silenceTimerExpiry port) := of_wellFormed _

theorem LinkRequest.quietTimerExpiry (port : Port) :
    LinkRequest.Statement (.quietTimerExpiry port) := of_wellFormed _

theorem LinkRequest.lineGoodDrop (port : Port) :
    LinkRequest.Statement (.lineGoodDrop port) := of_wellFormed _

theorem LinkRequest.lineGoodRise (port : Port) :
    LinkRequest.Statement (.lineGoodRise port) := of_wellFormed _

theorem LinkRequest.qualificationComplete (port : Port) :
    LinkRequest.Statement (.qualificationComplete port) := of_wellFormed _

theorem LinkRequest.receivedBreakBegin (port : Port) :
    LinkRequest.Statement (.receivedBreakBegin port) := of_wellFormed _

theorem LinkRequest.receivedBreakEnd (port : Port) :
    LinkRequest.Statement (.receivedBreakEnd port) := of_wellFormed _

theorem LinkRequest.breakDetected (port : Port) :
    LinkRequest.Statement (.breakDetected port) := of_wellFormed _

theorem LinkRequest.breakSendEnd (port : Port) :
    LinkRequest.Statement (.breakSendEnd port) := of_wellFormed _

theorem LinkRequest.holddownExpiry (port : Port) :
    LinkRequest.Statement (.holddownExpiry port) := of_wellFormed _

theorem LinkRequest.steadyTimerComplete (port : Port) :
    LinkRequest.Statement (.steadyTimerComplete port) := of_wellFormed _

theorem LinkRequest.flapWindowExpiry (port : Port) :
    LinkRequest.Statement (.flapWindowExpiry port) := of_wellFormed _

theorem LinkRequest.pausingPhaseExpiry (port : Port) :
    LinkRequest.Statement (.pausingPhaseExpiry port) := of_wellFormed _

theorem LinkRequest.releasingPhaseExpiry (port : Port) :
    LinkRequest.Statement (.releasingPhaseExpiry port) := of_wellFormed _

theorem LinkRequest.measurementComplete (raw : Byte) :
    LinkRequest.Statement (.measurementComplete raw) := of_wellFormed _

theorem LinkRequest.agingSweep : LinkRequest.Statement .agingSweep := of_wellFormed _

theorem LinkRequest.epochTick : LinkRequest.Statement .epochTick := of_wellFormed _

theorem LinkRequest.epochExpiry : LinkRequest.Statement .epochExpiry := of_wellFormed _

theorem LinkRequest.baseTick (n : Nat) :
    LinkRequest.Statement (.baseTick n) := of_wellFormed _

end Sys2Proof.Laws
end

