-- ==== Sys2Proof/Laws/Requests.lean ====
section
/-! SUPPORT. What the controller does with bytes and with a good frame, said once: a statement about a request
needs only what its owner answers to `hunted s`. -/

namespace Sys2Proof.Machine

open Sys2Proof Sys2Proof.Safety

/-- A part that hunts again has counted the gap that stood, if it was too long. -/
theorem hunt_eq_hunted (s : State) : hunt (gapTimeout s) = hunted s := by
  by_cases h : s.link.gap.any (gapLimit < ·) = true
  · have h' : s.link.gap.any (20000 < ·) = true := h
    simp [hunt, hunted, gapTimeout, countLinkError, modLink, h, h']
  · have h' : ¬ s.link.gap.any (20000 < ·) = true := h
    simp [hunt, hunted, gapTimeout, modLink, h, h']

/-- The bytes of a frame find the assembler hunting exactly where the state says so. -/
theorem hunting_iff (s : State) : hunting s ↔ (gapTimeout s).link.rx = [] := by
  by_cases h : s.link.gap.any (gapLimit < ·) = true
  · have h' : s.link.gap.any (20000 < ·) = true := h
    simp [hunting, hunt, gapTimeout, countLinkError, modLink, h, h']
  · have h' : ¬ s.link.gap.any (20000 < ·) = true := h
    simp only [hunting, gapTimeout, if_neg h, h']
    simp

/-- A frame that finds the assembler hunting is taken. -/
theorem frameArrival_of_hunting (m : Message) (s : State) (hr : s.link.inRestart = false)
    (h : hunting s) : frameArrival m s = transmit (takeFrame m (hunted s)) := by
  simp [frameArrival, hr, (hunting_iff s).mp h, hunt_eq_hunted]

/-- A frame whose bytes come while another is in reception continues it. -/
theorem frameArrival_of_receiving (m : Message) (s : State) (h : ¬ hunting s) :
    frameArrival m s = receiveBytes m.encode s := by
  have hg : gapTimeout s = s := if_neg fun hg => h (Or.inr hg)
  have hx : s.link.rx ≠ [] := fun hx => h (Or.inl hx)
  simp [frameArrival, receiveBytes, hg, hx, Message.encode]

/-- A gap that has not passed 20 ms ends nothing. -/
theorem gapTimeout_of_within (s : State) (h : ∀ n, s.link.gap = some n → n ≤ gapLimit) :
    gapTimeout s = s := by
  cases hg : s.link.gap with
  | none => simp [gapTimeout, hg]
  | some n => simp [gapTimeout, hg, Nat.not_lt.mpr (h n hg)]

/-- A gap of more than 20 ms discards the frame in reception and is counted. -/
theorem gapTimeout_of_passed (s : State) (n : Nat) (h : s.link.gap = some n) (hn : gapLimit < n) :
    gapTimeout s = countLinkError (hunt s) := by
  simp [gapTimeout, h, hn]

/-- A part that hunts hunts on. -/
theorem hunt_of_hunting {s : State} (hx : s.link.rx = []) (hg : s.link.gap = none) : hunt s = s := by
  have h : { s.link with rx := [], gap := none } = s.link := by rw [← hx, ← hg]
  simp only [hunt, modLink, h]

/-- Bytes that find the assembler hunting go to it. -/
theorem receiveBytes_of_hunting (bytes : List Byte) {s : State} (hr : s.link.inRestart = false)
    (hx : s.link.rx = []) (hg : s.link.gap = none) : receiveBytes bytes s = assemble bytes s := by
  have ht : gapTimeout s = s := if_neg (by simp [hg])
  cases bytes with
  | nil =>
    simp only [receiveBytes, hr, ht, assemble, hx, List.nil_append, hunt_of_hunting hx hg]
    exact (hunt_of_hunting hx hg).symm
  | cons b rest => simp [receiveBytes, hr, ht]

/-- Bytes that come within the gap go to the assembler. -/
theorem receiveBytes_of_within (bytes : List Byte) (s : State) (hr : s.link.inRestart = false)
    (hb : bytes ≠ []) (h : ∀ n, s.link.gap = some n → n ≤ gapLimit) :
    receiveBytes bytes s = assemble bytes s := by
  simp [receiveBytes, hr, hb, gapTimeout_of_within s h]

/-- A frame that is not whole stays in reception. -/
theorem assemble_of_unfinished {bytes rest : List Byte} {s : State}
    (h : s.link.rx ++ bytes = marker :: rest) (hf : frameOf rest = .unfinished) :
    assemble bytes s = modLink (fun l => { l with rx := marker :: rest, gap := some 0 }) s := by
  simp [assemble, h, scan, hf, modLink, hunt]

/-- A bad frame is counted, and the assembler goes on at the byte after its marker. -/
theorem assemble_of_bad {bytes rest : List Byte} {s : State}
    (h : s.link.rx ++ bytes = marker :: rest) (hf : frameOf rest = .bad) :
    assemble bytes s = assemble rest (countLinkError (hunt s)) := by
  simp only [assemble, h, List.length_cons, scan, if_pos, hf]
  rfl

/-- A good frame is taken, and the assembler goes on at the byte after it. -/
theorem assemble_of_good {bytes rest after : List Byte} {m : Message} {s : State}
    (h : s.link.rx ++ bytes = marker :: rest) (hf : frameOf rest = .good m after) :
    assemble bytes s = assemble after (transmit (takeFrame m (hunt s))) := by
  have hx : (transmit (takeFrame m (hunt s))).link.rx = [] := by simp [hunt, modLink]
  have hg : (transmit (takeFrame m (hunt s))).link.gap = none := by simp [hunt, modLink]
  have hh := hunt_of_hunting hx hg
  have hl := length_of_good hf
  simp only [assemble, h, List.length_cons, scan, if_pos, hf, hx, hh, List.nil_append,
    scan_of_le rest.length after (by omega)]
  rfl

/-- A beacon's arrival discards it exactly where it is lost. -/
theorem beaconCut_iff (s : State) (p : Port) :
    beaconCut (receptionOf s p) s.now = true ↔ beaconLost s p := by
  simp [beaconCut, beaconLost]

/-- A part that accepts is not in restart and hunts, so a good frame reaches the places. -/
theorem request_of_accepting (kind tag : Byte) (body : List Byte) (s : State) (h : accepting s) :
    request kind tag body s =
      performed kind tag (serve kind body (hunted s)).2.body (serve kind body (hunted s)).1 := by
  obtain ⟨h1, h2, h3, h4⟩ := h
  have a1 : (hunted s).link.restartHanded = false := h2
  have a2 : (hunted s).link.places.length < 4 := h3
  rw [request, frameArrival_of_hunting _ s h1 h4]
  simp [takeFrame, performed, holdPlace, a1, a2, placeCount]

/-- A request of an allowed length is answered by its owner. -/
theorem request_of_length (kind tag : Byte) (body : List Byte) (s : State) (h : accepting s)
    (hl : lengthAllowed? kind body.length = some true) :
    request kind tag body s =
      performed kind tag (handRequest kind body (hunted s)).2.body
        (handRequest kind body (hunted s)).1 := by
  rw [request_of_accepting kind tag body s h]
  simp [serve, hl]

/-- A request whose owner refuses it is refused. -/
theorem request_of_refusal (kind tag : Byte) (body : List Byte) (s : State) (st : Status)
    (h : accepting s) (hr : serve kind body (hunted s) = refuse st (hunted s)) :
    request kind tag body s = refused kind tag st s := by
  rw [request_of_accepting kind tag body s h, hr]
  rfl

/-- A request whose owner answers with a state and a reply is performed with them. -/
theorem request_of_answer (kind tag : Byte) (body : List Byte) (s t : State) (a : Answer)
    (h : accepting s) (hr : serve kind body (hunted s) = (t, a)) :
    request kind tag body s = performed kind tag a.body t := by
  rw [request_of_accepting kind tag body s h, hr]

/-- A request of an allowed length reaches its owner. -/
theorem serve_of_length (kind : Byte) (body : List Byte) (s : State)
    (hl : lengthAllowed? kind body.length = some true) :
    serve kind body s = handRequest kind body s := by
  simp [serve, hl]

/-- A command that carries a good frame is the request that the frame is. -/
theorem exec_of_message (i : Instr) (m : Message) (s : State) (h : i.message? = some m) :
    exec i s = request m.kind m.tag m.body s := by
  cases i <;> simp [Instr.message?, Instr.requestKind?, Instr.frameParts?] at h <;> subst h <;> rfl

/-! ### The hunting state differs from the state in its assembler alone -/

section

variable (s : State)

@[simp] theorem hunted_directory : (hunted s).directory = s.directory := rfl
@[simp] theorem hunted_stations : (hunted s).stations = s.stations := rfl
@[simp] theorem hunted_forwarding : (hunted s).forwarding = s.forwarding := rfl
@[simp] theorem hunted_buffer : (hunted s).buffer = s.buffer := rfl
@[simp] theorem hunted_relief : (hunted s).relief = s.relief := rfl
@[simp] theorem hunted_ports : (hunted s).ports = s.ports := rfl
@[simp] theorem hunted_measurement : (hunted s).measurement = s.measurement := rfl
@[simp] theorem hunted_billing : (hunted s).billing = s.billing := rfl
@[simp] theorem hunted_link :
    (hunted s).link =
      { s.link with
        rx := [], gap := none
        linkErrors :=
          if s.link.gap.any (20000 < ·) = true then s.link.linkErrors + 1 else s.link.linkErrors } :=
  rfl
@[simp] theorem hunted_now : (hunted s).now = s.now := rfl
@[simp] theorem hunted_lineOut : (hunted s).lineOut = s.lineOut := rfl
@[simp] theorem hunted_freeCount : (hunted s).freeCount = s.freeCount := rfl
@[simp] theorem hunted_pending : (hunted s).pending = s.pending := rfl

end

end Sys2Proof.Machine
end

