-- ==== Sys2Proof/Laws/Time.lean ====
section
/-! SUPPORT. What the passing of time does to a received break and to a Port Unit. -/

namespace Sys2Proof.Machine

open Sys2Proof

/-- Outside DISABLED the passing of time takes no detection away. -/
theorem passBreak_of_enabled {link : LinkState} (h : link ≠ .disabled) (n : Nat) (b : ReceivedBreak) :
    passBreak link n b = { b with left := b.left - n } := by
  have hl : (link == LinkState.disabled) = false := by simpa using h
  simp [passBreak, hl]

/-- Passing m and then n microseconds is passing m + n. -/
theorem passBreak_add (link : LinkState) (m n : Nat) (b : ReceivedBreak) :
    passBreak link n (passBreak link m b) = passBreak link (m + n) b := by
  have later : (b.left < m ∨ b.left - m < n) ↔ b.left < m + n := by omega
  cases hl : link == LinkState.disabled <;> simp [passBreak, hl, Nat.sub_sub, Bool.or_assoc, ← later]

/-- A countdown passes m and then n microseconds as it passes m + n. -/
theorem passCountdown_add (m n : Nat) (t : Countdown) :
    passCountdown n (passCountdown m t) = passCountdown (m + n) t := by
  cases t <;> simp [passCountdown, Nat.sub_sub]

/-- A timer that measures passes m and then n microseconds as it passes m + n. -/
theorem passElapsed_add (m n : Nat) (t : Elapsed) :
    passElapsed n (passElapsed m t) = passElapsed (m + n) t := by
  cases t <;> simp [passElapsed, Nat.add_assoc]

/-- A Port Unit passes m and then n microseconds as it passes m + n. -/
theorem passPort_add (m n : Nat) (u : PortUnit) : passPort n (passPort m u) = passPort (m + n) u := by
  have breaks : (u.receivedBreak.map (passBreak u.link m)).map (passBreak u.link n) =
      u.receivedBreak.map (passBreak u.link (m + n)) := by
    cases u.receivedBreak <;> simp [passBreak_add]
  simp only [passPort, passCountdown_add, passElapsed_add, breaks]

/-- R112: a break whose first millisecond has passed in DISABLED is not due for detection, whatever the port
does later. -/
theorem breakDue_passPort_of_disabled {u : PortUnit} {b : ReceivedBreak} {n : Nat}
    (hl : u.link = .disabled) (hb : u.receivedBreak = some b) (hn : b.left < n) :
    breakDue (passPort n u) = false := by
  simp [breakDue, passPort, passBreak, hl, hb, hn]

end Sys2Proof.Machine
end

