-- ==== Sys2Proof/Tests/Slice0.lean ====
section
/-! SUPPORT. The model's own tests: the checks of well-formedness, the spec's worked figures, one step of
each command on a small state, and for each statement with premises a state and operands that meet
them. -/

namespace Sys2Proof.Tests

set_option Elab.async false

open Sys2Proof Sys2Proof.Machine Sys2Proof.Safety

/-! ### Small states -/

/-- The part after reset, its READY notice sent. -/
def idle : State := modLink (fun l => { l with sending := none }) State.reset

/-- The state that a command leaves. -/
def after (i : Instr) (s : State) : State := match exec i s with
  | .next t => t
  | _ => s

/-- The status byte of the reply that a command has the idle transmitter send. -/
def status (i : Instr) (s : State) : Option Byte :=
  ((after i s).link.sending.map fun x => x.message.body.headD 0xFF)

/-- Port `p` in a link state, all else idle. -/
def linked (p : Port) (l : LinkState) (s : State := idle) : State :=
  modPort p (fun u => { u with link := l, config := { u.config with enabled := l != .disabled } }) s

/-- Tenant 4 owns segment 20, of group A; ports 5 and 7 are bound to it, and trunk 32 is in group A. -/
def placed (s : State := idle) : State :=
  { s with
    directory :=
      { s.directory with
        tenants := s.directory.tenants.set 4
          { defined := true, heldSet := 0x20, quotaCells := 100, stationLimit := 2, retired := false }
        segments := s.directory.segments.set 20 (some { owner := 4, trunkGroup := some .a })
        applied := (s.directory.applied.set 5 (some ⟨4, 20⟩)).set 7 (some ⟨4, 20⟩) }
    forwarding := { s.forwarding with groupA := ⟨0x01, 0x01⟩ } }

/-- Ports 5, 7 and 32 UP with the placement above. -/
def inService : State := placed (linked 5 .up (linked 7 .up (linked 32 .up)))

/-- A good frame of 600 bytes from one station to another. -/
def frame : DataFrame :=
  { dst := 0x52, src := 0x51, tag := 20, priority := 5, length := 600, goodCheck := true, payload := [] }

/-- A state whose station table holds one entry. -/
def withEntry (e : StationEntry) (s : State := inService) : State :=
  { s with stations := { s.stations with entries := [e] } }

/-- The entry of the frame's source, learned on port 5. -/
def entry : StationEntry :=
  { segment := 20, address := 0x51, kind := .learned true, target := .port 5, tenant := 4 }

/-- One held copy of one stored frame on port 7, in transmission or not. -/
def stored (sending : Bool) (s : State := inService) : State :=
  { s with
    buffer :=
      { s.buffer with
        records :=
          [(0, { tenant := 4, ingress := 5, cls := .held, length := 600, cells := 3,
                 storage := .common, flowHash := 0, copiesRemaining := 1, data := frame })]
        held := s.buffer.held.set 7 [{ frame := 0, marked := false, inTransmission := sending }] } }

/-- The same copy in the bulk queue. -/
def storedBulk (s : State := inService) : State :=
  { s with
    buffer :=
      { (stored false s).buffer with
        held := s.buffer.held
        bulk := s.buffer.bulk.set 7 [{ frame := 0, marked := false, inTransmission := false }] } }

/-- Billing RUNNING in epoch 1 with tenant 0's meters open. -/
def running (s : State := idle) : State :=
  { s with
    billing :=
      { s.billing with
        state := .running, epoch := 1, meters := s.billing.meters.set 0 (some (Meters.opened 0)) } }

/-- Billing with its settings changed. -/
def billed (f : Billing → Billing) (s : State := running) : State := { s with billing := f s.billing }

/-- One billing record. -/
def record : BillingRecord :=
  { epoch := 1, tenant := 0, flags := ⟨false, false, false, false⟩, boundPorts := 0, heldSet := 0,
    meters := Meters.opened 0, closingResident := 0 }

/-- A measurement of port 5 for the host that is due. -/
def measuring (origin : Origin) (s : State := idle) : State :=
  { s with
    measurement :=
      { s.measurement with
        filed := 1
        inProgress :=
          some { request := ⟨0, 5, origin, .probing⟩, left := 0, lineBad := false } } }

/-- Port 5 in PROBING, its recovery request 0 being measured. -/
def probing : State :=
  measuring .recovery (modPort 5 (fun u => { u with presentRequest := some 0 }) (linked 5 .probing))

/-- A generator of port 5 in a state with its timer run out. -/
def pacing (g : GeneratorState) (paced : Bool) (s : State := idle) : State :=
  { s with
    relief :=
      { s.relief with
        paced := s.relief.paced.set 5 paced
        generators := s.relief.generators.set 5
          { state := g, timer := some 0, pausesSent := 0, releasesSent := 0 } } }

/-- The four places held. -/
def full : State :=
  modLink (fun l => { l with places := List.replicate 4 { kind := 1, tag := 0, reply := some [0] } }) idle

theorem accepting_idle : accepting idle := ⟨rfl, rfl, by decide, Or.inl rfl⟩

theorem accepting_inService : accepting inService := ⟨rfl, rfl, by decide, Or.inl rfl⟩

/-! ### Well-formedness: one ill-formed command for each check -/

theorem test_wf_long_body :
    (Instr.hello 0 (List.replicate 1025 0)).wellFormed = false ∧
      (Instr.hello 0 (List.replicate 1024 0)).wellFormed = true := by decide +kernel

theorem test_wf_enable_port :
    (Instr.enable 0 40).wellFormed = false ∧ (Instr.enable 0 39).wellFormed = true := by decide

theorem test_wf_disable_port :
    (Instr.disable 0 40).wellFormed = false ∧ (Instr.disable 0 39).wellFormed = true := by decide

theorem test_wf_bad_kind_is_no_request_kind :
    (Instr.badKind 0x01 0 []).wellFormed = false ∧ (Instr.badKind 0x07 0 []).wellFormed = true := by
  decide

theorem test_wf_framing_error_is_bad :
    (Instr.framingError [0xA5, 1, 2]).wellFormed = false ∧
      (Instr.framingError [1, 2, 3, 0xFF, 0xFF]).wellFormed = false ∧
      (Instr.framingError [0xA5, 1, 2, 0xFF, 0xFF]).wellFormed = true := by decide

theorem test_wf_gap_brings_no_event :
    (Instr.byteGapTimeout [0xA5, 1, 2, 0xFF, 0xFF]).wellFormed = false ∧
      (Instr.byteGapTimeout []).wellFormed = true ∧
      (Instr.byteGapTimeout [0xA5, 1]).wellFormed = true := by decide

theorem test_wf_beacon_timer_of_a_trunk :
    (Instr.beaconTimerExpiry 31).wellFormed = false ∧
      (Instr.beaconTimerExpiry 32).wellFormed = true := by decide

theorem test_wf_silence_timer_of_a_trunk :
    (Instr.silenceTimerExpiry 31).wellFormed = false ∧
      (Instr.silenceTimerExpiry 32).wellFormed = true := by decide

theorem test_wf_quiet_timer_of_a_station :
    (Instr.quietTimerExpiry 32).wellFormed = false ∧
      (Instr.quietTimerExpiry 31).wellFormed = true := by decide

theorem test_wf_base_tick_passes_one :
    (Instr.baseTick 0).wellFormed = false ∧ (Instr.baseTick 1).wellFormed = true := by decide

/-! ### The spec's worked figures -/

/-- Table 2-2. -/
theorem test_bucket_examples :
    bucketOf 20 0x061A2B3C4D5E = 22 ∧ bucketOf 20 0x061A2B3C5E4D = 22 ∧
      bucketOf 10 0x061A2B3C4D5E = 676 := by decide

/-- Table 3-4. -/
theorem test_flow_hash_example :
    flowHash 20 { frame with dst := 0x061A2B3C4D5E, src := 0x061A2B3C4D60 } = 122 := by decide

/-- R160: the check of the nine ASCII digits. -/
theorem test_check_example :
    crc16 [0x31, 0x32, 0x33, 0x34, 0x35, 0x36, 0x37, 0x38, 0x39] = 0x29B1 := by decide +kernel

/-- Section 4.10: 600, 1,500 and 3,000 bytes take 3, 6 and 12 cells. -/
theorem test_cells_examples :
    cellsOfLength 600 = 3 ∧ cellsOfLength 1500 = 6 ∧ cellsOfLength 3000 = 12 := by decide

/-- The restart record of a power restart in the READY notice. -/
theorem test_ready_body : RestartRecord.bytes ⟨.power, .unknown, 0⟩ = [1, 2, 0, 0] := by decide

/-! ### One step of each command -/

theorem test_tenantDefine :
    ((after (.tenantDefine 1 [4, 0x20, 0, 100, 0, 2]) idle).directory.tenants[(4 : TenantId)]) =
      { defined := true, heldSet := 0x20, quotaCells := 100, stationLimit := 2, retired := false } := by
  decide

theorem test_tenantRemove_conflict : status (.tenantRemove 1 [4]) inService = some 0x17 := by
  decide +kernel

theorem test_tenantQuery :
    (after (.tenantQuery 1 [4]) inService).link.sending.map (·.message.body) =
      some ([0, 0x20, 0, 100, 0, 2, 0, 0] ++ List.replicate 12 0 ++ [0, 0, 0, 0xA0] ++ [0, 0, 0, 0] ++
        [0, 1]) := by decide +kernel

theorem test_tenantBind_in_service : status (.tenantBind 1 [5, 4, 0, 20]) inService = some 0x13 := by
  decide

theorem test_tenantBind :
    (after (.tenantBind 1 [6, 4, 0, 20]) inService).directory.applied[(6 : StationPort)] =
      some ⟨4, 20⟩ := by decide

theorem test_segmentDefine :
    (after (.segmentDefine 1 [0, 30, 4, 2]) inService).directory.segments[(30 : SegmentId)] =
      some { owner := 4, trunkGroup := some .b } := by decide

theorem test_segmentRemove_conflict : status (.segmentRemove 1 [0, 20]) inService = some 0x17 := by
  decide

theorem test_stationAdd :
    (after (.stationAdd 1 [0, 20, 0, 0, 0, 0, 0, 0x51, 7]) inService).stations.entries =
      [{ entry with kind := .fixed, target := .port 7 }] := by decide

theorem test_stationRemove :
    (after (.stationRemove 1 [0, 20, 0, 0, 0, 0, 0, 0x51]) (withEntry entry)).stations.entries = [] := by
  decide

theorem test_stationFind :
    (after (.stationFind 1 [0, 20, 0, 0, 0, 0, 0, 0x51]) (withEntry entry)).link.sending.map
        (·.message.body) = some [0, 0, 5, 1, 4, 3, 0x35] := by decide

theorem test_stationFlush :
    (after (.stationFlush 1 [0, 0]) (withEntry entry)).link.sending.map (·.message.body) =
      some [0, 0, 1] := by decide

theorem test_stationStatus_period :
    (after (.stationStatus 1 [0, 9]) idle).stations.sweepPeriod = 9 ∧
      status (.stationStatus 1 [0, 0]) idle = some 0x12 := by decide

theorem test_trunkGroup :
    (after (.trunkGroup 1 [2, 0x0C]) idle).forwarding.groupB = ⟨0x0C, 0⟩ := by decide

theorem test_forwardStatus :
    ((after (.forwardStatus 1 []) inService).link.sending.map fun x =>
      (x.message.body.length, x.message.body.take 5)) = some (485, [0, 1, 1, 0, 0]) := by
  decide +kernel

theorem test_bufferQuery :
    ((after (.bufferQuery 1 []) idle).link.sending.map fun x =>
      (x.message.body.length, x.message.body.take 5)) = some (497, [0, 0, 0, 0x40, 0]) := by
  decide +kernel

theorem test_reliefSet :
    (after (.reliefSet 1 [0, 40, 0, 4, 0, 60, 0, 8, 0, 4, 0, 3, 0, 200, 0, 100]) idle).relief.settings =
      ⟨40, 4, 60, 8, 4, 3, 200, 100⟩ := by decide

theorem test_reliefQuery :
    ((after (.reliefQuery 1 []) idle).link.sending.map fun x => x.message.body.take 3) =
      some [0, 8, 0] := by decide +kernel

theorem test_portSet :
    (after (.portSet 1 [5, 0, 3, 48, 0, 100, 0, 16, 20, 4, 19, 136, 0, 0, 0, 96, 0, 50, 5, 0, 60])
      idle).ports[(5 : Port)].config = { PortConfig.initial 5 with defaultPriority := 3 } := by decide

theorem test_portAdjust :
    ((after (.portAdjust 1 [5, 2, 0, 3]) idle).ports[(5 : Port)].config).defaultPriority = 3 ∧
      status (.portAdjust 1 [5, 2, 0, 3, 2, 0, 4]) idle = some 0x12 := by decide

theorem test_enable : (after (.enable 1 5) idle).ports[(5 : Port)].link = .down := by
  decide +kernel

theorem test_disable : (after (.disable 1 5) inService).ports[(5 : Port)].link = .disabled := by
  decide +kernel

theorem test_portQuery :
    ((after (.portQuery 1 [5]) inService).link.sending.map (·.message.body.length)) = some 61 := by
  decide +kernel

theorem test_portRelease_state : status (.portRelease 1 [5]) inService = some 0x13 := by decide

theorem test_portRelease :
    (after (.portRelease 1 [5]) (linked 5 .barred)).ports[(5 : Port)].link = .down := by decide +kernel

theorem test_portFaults :
    ((after (.portFaults 1 [5]) idle).link.sending.map (·.message.body)) =
      some (List.replicate 30 0) := by decide

theorem test_lineMeasure :
    ((after (.lineMeasure 1 [5]) inService).measurement.inProgress.map (·.left)) = some 2000 := by decide

theorem test_lineCalibrate : (after (.lineCalibrate 1 [0xFB]) idle).measurement.offset = -5 := by decide

theorem test_billStart :
    (after (.billStart 1 []) idle).billing.state = .running ∧
      (after (.billStart 1 []) idle).billing.epoch = 1 := by decide

theorem test_billStop : (after (.billStop 1 []) (running)).billing.state = .stopped := by decide +kernel

theorem test_billHold : (after (.billHold 1 []) running).billing.state = .held := by decide

theorem test_billResume_state : status (.billResume 1 []) running = some 0x13 := by decide

theorem test_billClose :
    (after (.billClose 1 []) running).billing.epoch = 2 ∧
      (after (.billClose 1 []) running).billing.queue.length = 1 := by decide +kernel

theorem test_billSet : (after (.billSet 1 [2, 0, 7]) idle).billing.tickSelect = .ms100 := by decide

theorem test_billDrain :
    (after (.billDrain 1 [1]) (billed fun b => { b with queue := [record] })).link.sending.map
        (·.message.body.length) = some 116 := by decide +kernel

theorem test_billLock : (after (.billLock 1 []) idle).billing.lock = true := by decide

theorem test_billQuery_notFound : status (.billQuery 1 [4]) idle = some 0x18 := by decide

theorem test_noticeMask : (after (.noticeMask 1 [0, 2]) idle).link.mask = 3 := by decide

theorem test_hello :
    ((after (.hello 1 []) idle).link.sending.map fun x => x.message.body.take 3) =
      some [0, 0x62, 0x28] := by decide

theorem test_restart : (after (.restart 1 []) idle).link.restartHanded = true := by decide

theorem test_badKind :
    ((after (.badKind 0x41 9 [7]) idle).link.sending.map fun x => x.message) =
      some ⟨0xC1, 9, [0x10]⟩ := by decide

theorem test_requestOverflow :
    (after (.requestOverflow 0x3D 5 []) (modLink (fun l => { l with sending := some ⟨.notice, ⟨0x41, 0, []⟩⟩ })
      full)).link.overflow = some ⟨0xBD, 5, [0x15]⟩ := by decide

theorem test_framingError :
    (after (.framingError [0xA5, 1, 2, 0xFF, 0xFF]) idle).link.linkErrors = 1 := by decide +kernel

/-- The part with a frame in reception whose last byte came so many microseconds ago. -/
def receiving (n : Nat) : State := modLink (fun l => { l with rx := [0xA5, 1], gap := some n }) idle

theorem test_byteGapTimeout :
    (after (.byteGapTimeout [0xA5, 1]) idle).link = (receiving 0).link ∧
      (after (.byteGapTimeout []) (receiving 20001)).link.linkErrors = 1 ∧
      (after (.byteGapTimeout []) (receiving 20000)).link = (receiving 20000).link := by decide +kernel

theorem test_hello_after_a_gap :
    ((after (.hello 1 []) (receiving 20001)).link.sending.map fun x => x.message.body.drop 8) =
      some [0, 0, 0, 1] := by decide

/-- HELLO's bytes continue the frame in reception: its length becomes 0x3D07, a framing error, after which
HELLO is found whole. -/
theorem test_hello_in_reception :
    ((after (.hello 7 []) (receiving 20000)).link.sending.map fun x =>
        (x.message.tag, x.message.body.drop 8)) = some (7, [0, 0, 0, 1]) ∧
      (after (.hello 7 []) (receiving 20000)).link.rx = [] := by decide +kernel

/-- A frame in reception that lacks more bytes than HELLO has takes them into its body. -/
theorem test_hello_in_a_body :
    (after (.hello 7 [])
        (modLink (fun l => { l with rx := [0xA5, 1, 2, 0, 9], gap := some 5 }) idle)).link.rx =
      [0xA5, 1, 2, 0, 9] ++ Message.encode ⟨0x3D, 7, []⟩ := by decide +kernel

theorem test_frameSendEnd : (after .frameSendEnd State.reset).link.sending = none := by decide

theorem test_powerRestart : (after .powerRestart inService).link.inRestart = true := by decide

theorem test_pinRestart :
    (after .pinRestart running).link.restartRecord = ⟨.pin, .yes, 0⟩ := by decide

theorem test_leaveRestart :
    (after .leaveRestart (after .powerRestart inService)).link = State.reset.link := by decide

theorem test_frameReceptionBegin :
    (after (.frameReceptionBegin 5) inService).ports[(5 : Port)].reception =
      some ⟨.up, false, false, none⟩ := by decide

theorem test_dataFrameArrival :
    (after (.dataFrameArrival 5 { frame with tag := 0 }) inService).stations.entries = [entry] ∧
      (after (.dataFrameArrival 5 { frame with tag := 0 }) inService).buffer.bulk[(7 : Port)] =
        [⟨0, false, true⟩] := by decide +kernel

theorem test_transmissionCompletion :
    (after (.transmissionCompletion 7) (stored true)).buffer.records = [] := by decide +kernel

theorem test_pauseFrameReceived :
    (after (.pauseFrameReceived 5 9) inService).ports[(5 : Port)].peerPause = some 9 := by decide

theorem test_releaseFrameReceived :
    (after (.releaseFrameReceived 5) (after (.pauseFrameReceived 5 9) inService)).ports[(5 : Port)].peerPause =
      none := by decide +kernel

theorem test_peerPauseExpiry_not_due :
    after (.peerPauseExpiry 5) (after (.pauseFrameReceived 5 9) inService) =
      after (.pauseFrameReceived 5 9) inService := rfl

theorem test_beaconReceived :
    (after (.beaconReceived 32 2) inService).ports[(32 : Port)].reference = some 2 := by decide +kernel

/-- A beacon cut by a fence is counted only in the instant of a SILENT one. -/
theorem test_beaconReceived_cut :
    ((fence 32 .silent (noteReception 32 inService)).ports[(32 : Port)].reception,
        (beaconArrival 32 2 (fence 32 .silent (noteReception 32 inService))).ports[(32 : Port)].lastBeacon,
        (beaconArrival 32 2 (fence 32 .peerBreak
          (noteReception 32 inService))).ports[(32 : Port)].lastBeacon) =
      (some ⟨.up, true, true, some 0⟩, some 2, none) := by decide +kernel

theorem test_beaconTimerExpiry :
    (after (.beaconTimerExpiry 32) (modPort 32 (fun u => { u with beaconTimer := some 0 })
      inService)).lineOut = [.beacon 32 0] := by decide +kernel

theorem test_errorWindowEnd :
    (after (.errorWindowEnd 5) (modPort 5 (fun u => { u with errorWindow := some 0, errorCount := 3 })
      inService)).ports[(5 : Port)].errorCount = 0 := by decide

theorem test_silenceTimerExpiry :
    (after (.silenceTimerExpiry 32) (modPort 32 (fun u => { u with silence := some 30000 })
      inService)).ports[(32 : Port)].capture.map Capture.cause = some .silent := by decide +kernel

theorem test_quietTimerExpiry :
    (after (.quietTimerExpiry 5) (modPort 5 (fun u => { u with quietTimer := some 0 })
      inService)).ports[(5 : Port)].quiet = true := by decide +kernel

theorem test_lineGoodDrop :
    (after (.lineGoodDrop 5) (modPort 5 (fun u => { u with lineGood := true })
      inService)).ports[(5 : Port)].link = .fenced := by decide +kernel

theorem test_lineGoodRise :
    (after (.lineGoodRise 5) (linked 5 .down)).ports[(5 : Port)].qualification = some 20000 := by decide

theorem test_qualificationComplete :
    (after (.qualificationComplete 5) (modPort 5 (fun u => { u with qualification := some 0 })
      (linked 5 .down))).ports[(5 : Port)].link = .probing := by decide +kernel

theorem test_receivedBreakBegin :
    (after (.receivedBreakBegin 5) inService).ports[(5 : Port)].receivedBreak = some ⟨1000, false⟩ := by
  decide

theorem test_break_past_its_millisecond_in_DISABLED_is_spent :
    let broken (p : Port) (s : State) : State :=
      modPort p (fun u => { u with receivedBreak := some ⟨1000, false⟩ }) s
    (after (.baseTick 1001) (broken 5 idle)).ports[(5 : Port)].receivedBreak = some ⟨0, true⟩ ∧
      (after (.baseTick 1000) (broken 5 idle)).ports[(5 : Port)].receivedBreak = some ⟨0, false⟩ ∧
      (after (.baseTick 1001) (broken 5 inService)).ports[(5 : Port)].receivedBreak =
        some ⟨0, false⟩ := by decide +kernel

theorem test_receivedBreakEnd :
    (after (.receivedBreakEnd 5) (modPort 5 (fun u => { u with receivedBreak := some ⟨1, false⟩ })
      inService)).ports[(5 : Port)].link = .up := by decide +kernel

theorem test_breakDetected :
    (after (.breakDetected 5) (modPort 5 (fun u => { u with receivedBreak := some ⟨0, false⟩ })
      inService)).ports[(5 : Port)].capture.map Capture.cause = some .peerBreak := by decide +kernel

theorem test_breakSendEnd :
    (after (.breakSendEnd 5) (modPort 5 (fun u => { u with breakTimer := some 0 })
      inService)).lineOut = [.breakEnd 5] := by decide

theorem test_holddownExpiry :
    (after (.holddownExpiry 5) (modPort 5 (fun u => { u with holddown := some 0 })
      (linked 5 .fenced))).ports[(5 : Port)].link = .down := by decide +kernel

theorem test_steadyTimerComplete :
    (after (.steadyTimerComplete 5) (modPort 5
      (fun u => { u with steady := some 10000000, holddownStep := 3 }) inService)).ports[(5 : Port)].holddownStep = 0 := by decide

theorem test_flapWindowExpiry :
    (after (.flapWindowExpiry 5) (modPort 5 (fun u => { u with flapWindow := some 0, flapCount := 3 })
      inService)).ports[(5 : Port)].flapCount = 0 := by decide

theorem test_pausingPhaseExpiry :
    (after (.pausingPhaseExpiry 5) (pacing .pausing false)).lineOut = [.control 5 .release] := by
  decide +kernel

theorem test_releasingPhaseExpiry :
    (after (.releasingPhaseExpiry 5) (pacing .releasing true)).lineOut = [.control 5 (.pause 250)] := by
  decide +kernel

theorem test_measurementComplete :
    (after (.measurementComplete 96) probing).ports[(5 : Port)].link = .up ∧
      (after (.measurementComplete 95) probing).ports[(5 : Port)].link = .fenced := by decide +kernel

theorem test_agingSweep :
    (after .agingSweep { withEntry entry with
      stations := { (withEntry entry).stations with sweepElapsed := 300000000 } }).stations.entries =
        [{ entry with kind := .learned false }] := by decide

theorem test_epochTick :
    (after .epochTick (billed fun b => { b with tickElapsed := 1000000 })).billing.count = 1 := by
  decide +kernel

theorem test_epochExpiry :
    (after .epochExpiry (billed fun b => { b with tickElapsed := 1000000, count := 3599 })).billing.epoch =
      2 := by decide +kernel

theorem test_baseTick : (after (.baseTick 7) idle).now = 7 := by decide +kernel

/-- A step takes the front command alone. -/
theorem test_step_takes_the_front :
    step { idle with pending := [.baseTick 7, .frameSendEnd] } =
      exec (.baseTick 7) { idle with pending := [.frameSendEnd] } := rfl

/-- The core steps as the model does, and idles on an empty queue. -/
theorem test_core_idles : Sys2Proof.core.step idle = .next idle := rfl

/-! ### A state and operands for the premises of each statement -/

theorem test_premises_StepTakesTheFrontCommand :
    ({ idle with pending := [.frameSendEnd] } : State).pending = .frameSendEnd :: [] ∧
      idle.pending = [] := ⟨rfl, rfl⟩

/-- A RESTART's reply being sent. -/
def leaving : State :=
  modLink (fun l => { l with restartHanded := true, sending := some ⟨.place, ⟨0xBE, 1, [0]⟩⟩ }) idle

theorem test_premises_RestartLeavesBillingStopped :
    restarts .powerRestart idle ∧ restarts .pinRestart idle ∧ restarts .frameSendEnd leaving :=
  ⟨Or.inl rfl, Or.inr (Or.inl ⟨rfl, rfl⟩), Or.inr (Or.inr ⟨rfl, rfl⟩)⟩

theorem test_premises_RestartsReturnEveryBlock :
    (Instr.hello 1 []).message? = some ⟨0x3D, 1, []⟩ ∧ idle.link.restartLineHigh = true ∧
      leaving.link.sending = some ⟨.place, ⟨0xBE, 1, [0]⟩⟩ ∧
      (after .powerRestart idle).link.inRestart = true := by decide

theorem test_premises_EncodedFramesAreReceivedInOrder :
    (∀ m ∈ [(⟨0x3D, 1, []⟩ : Message), ⟨0x3D, 2, List.replicate 1024 0⟩], m.body.length ≤ 1024) ∧
      idle.link.rx = [] ∧ idle.link.gap = none ∧ idle.link.inRestart = false ∧
      (Instr.hello 1 []).message? = some ⟨0x3D, 1, []⟩ ∧
      ¬ ((receiving 20000).link.rx = [] ∨ (receiving 20000).link.gap.any (20000 < ·) = true) := by
  decide +kernel

theorem test_premises_AssemblerDiscardsBadFrames :
    idle.link.inRestart = false ∧ idle.link.rx = [] ∧ idle.link.gap = none ∧
      idle.link.gap.any (20000 < ·) = false ∧ (receiving 20000).link.gap.any (20000 < ·) = false ∧
      (receiving 20000).link.rx ++ [2, 4, 1] = [0xA5, 1, 2, 4, 1] ∧ frameOf [1, 2, 4, 1] = .bad ∧
      (receiving 20000).link.rx ++ [2, 4, 0] = [0xA5, 1, 2, 4, 0] ∧
      frameOf [1, 2, 4, 0] = .unfinished ∧ frameOf (Message.encode ⟨1, 2, [3]⟩).tail = .good ⟨1, 2, [3]⟩ [] ∧
      (receiving 20000).link.rx ++ (Message.encode ⟨1, 2, [3]⟩).drop 2 = Message.encode ⟨1, 2, [3]⟩ ∧
      (0 : Byte) ≠ 0xA5 ∧ (receiving 20001).link.gap = some 20001 ∧
      (receiving 20000).link.gap = some 20000 ∧ (receiving 0).link.inRestart = false := by decide +kernel

theorem test_premises_PlacesOverflowAndAreFreed :
    hunting full ∧ hunting (receiving 20001) ∧
      (Instr.requestOverflow 0x3D 5 []).message? = some ⟨0x3D, 5, []⟩ ∧
      full.link.inRestart = false ∧ full.link.restartHanded = false ∧ 4 ≤ full.link.places.length ∧
      full.link.overflow = none ∧
      (modLink (fun l => { l with overflow := some ⟨0x81, 9, [0x15]⟩ }) full).link.overflow.isSome = true ∧
      State.reset.link.sending = some ⟨.notice, ⟨0x40, 0, [1, 2, 0, 0]⟩⟩ ∧
      isRestartReply ⟨.notice, ⟨0x40, 0, [1, 2, 0, 0]⟩⟩ = false :=
  ⟨Or.inl rfl, Or.inr rfl, by decide⟩

theorem test_premises_KindAndLengthAreCheckedFirst :
    accepting idle ∧ (0x40 : Byte) ∉ requestKinds ∧ (0x00 : Byte) ∉ requestKinds ∧
      (Instr.hello 1 [0]).message? = some ⟨0x3D, 1, [0]⟩ ∧ lengthAllowed? 0x3D 1 = some false ∧
      0 < 2 ∧ 65535 < 256 ^ 2 :=
  ⟨accepting_idle, by decide⟩

/-- A QUIET notice pending. -/
def quietPending : State :=
  modLink (fun l => { l with notices := { l.notices with quiet := some PortSet.empty } }) idle

theorem test_premises_TransmitterChoosesByRank :
    State.reset.link.sending.isSome = true ∧ idle.link.inRestart = false ∧ idle.link.sending = none ∧
      (modLink (fun l => { l with overflow := some ⟨0x81, 9, [0x15]⟩ }) idle).link.overflow =
        some ⟨0x81, 9, [0x15]⟩ ∧
      full.link.overflow = none ∧
      full.link.places = ⟨1, 0, some [0]⟩ :: List.replicate 3 ⟨1, 0, some [0]⟩ := by decide

theorem test_premises_TransmitterChoosesByRank_notice :
    quietPending.link.overflow = none ∧ quietPending.link.places = [] ∧
      quietPending.link.mask.getLsbD NoticeKind.quiet.index = true ∧
      noticeBody quietPending .quiet = some [0, 0, 0, 0, 0] ∧
      (∀ j : NoticeKind, j.index < NoticeKind.quiet.index →
        quietPending.link.mask.getLsbD j.index = false ∨ noticeBody quietPending j = none) ∧
      ∀ k : NoticeKind, idle.link.mask.getLsbD k.index = false ∨ noticeBody idle k = none := by
  refine ⟨rfl, rfl, rfl, by decide +kernel, ?_, ?_⟩
  · intro j h
    cases j <;> first | exact Or.inr rfl | exact absurd h (by decide)
  · intro k
    cases k <;> exact Or.inr rfl

/-- A PORT-CHANGE notice pending for port 39, whose latched set is not empty. -/
def changePending : State :=
  modPort 39 (fun u => { u with latched := 0x80 })
    (modNotices (fun n => { n with portChange := joinPort none 39 }) idle)

theorem test_premises_TransmitterChoosesByRank_portChange :
    changePending.link.notices.portChange = some (PortSet.empty.set 39 true) ∧
      noticeBody changePending .portChange = some [1, 39, 0, 8, 0x80] ∧
      (takeNotice .portChange changePending).ports[(39 : Port)].latched = 0 := by decide +kernel

theorem test_premises_RestartAndNoticeMaskAnswer :
    accepting idle ∧ hunting leaving ∧ (Instr.hello 1 []).message? = some ⟨0x3D, 1, []⟩ ∧
      leaving.link.inRestart = false ∧ leaving.link.restartHanded = true ∧
      1024 ≤ field [4, 0] 0 2 ∧ ¬ 1024 ≤ field [3, 255] 0 2 :=
  ⟨accepting_idle, Or.inl rfl, by decide⟩

/-- HelloReportsThePart, ForwardStatusReportsGroupsAndCounts, BufferAndReliefReportsFitTheirLayouts,
RestartAndNoticeMaskAnswer. -/
theorem test_premises_requests_without_operands :
    accepting idle ∧ accepting inService := ⟨accepting_idle, accepting_inService⟩

theorem test_premises_TenantDefineCreatesOrReplaces :
    accepting inService ∧ ([63, 0x20, 0x40, 0, 0x10, 0] : List Byte).length = 6 ∧
      63 < field [64, 0, 0, 0, 0, 0] 0 1 ∧ field [0, 0, 0, 0, 0, 0] 0 1 = 0 ∧ (63 : TenantId) ≠ 0 ∧
      field [63, 0x20, 0x40, 0, 0x10, 0] 0 1 = (63 : TenantId).val ∧
      ¬ 16384 < field [63, 0x20, 0x40, 0, 0x10, 0] 2 2 ∧
      ¬ 4096 < field [63, 0x20, 0x40, 0, 0x10, 0] 4 2 := ⟨accepting_inService, by decide⟩

theorem test_premises_TenantRemoveWritesItsRecord :
    accepting inService ∧ ([4] : List Byte).length = 1 ∧ field [0] 0 1 = 0 ∧ 63 < field [64] 0 1 ∧
      (4 : TenantId) ≠ 0 ∧ field [4] 0 1 = (4 : TenantId).val ∧
      field [63] 0 1 = (63 : TenantId).val := ⟨accepting_inService, by decide⟩

theorem test_premises_TenantQueryAndStationStatusReport :
    accepting inService ∧ ([0] : List Byte).length = 1 ∧ 63 < field [64] 0 1 ∧
      field [0] 0 1 = (0 : TenantId).val ∧ field [63] 0 1 = (63 : TenantId).val ∧
      ([14, 16] : List Byte).length = 2 ∧ field [14, 16] 0 2 = 3600 ∧ field [14, 17] 0 2 = 3601 :=
  ⟨accepting_inService, by decide⟩

theorem test_premises_TenantBindAppliesOrStages :
    accepting inService ∧ ([31, 4, 0, 20] : List Byte).length = 4 ∧ 31 < field [32, 4, 0, 20] 0 1 ∧
      field [31, 64, 4, 0] 2 2 ≠ 0 ∧ 63 < field [31, 64, 4, 0] 1 1 ∧ 1023 < field [31, 64, 4, 0] 2 2 ∧
      field [31, 4, 0, 20] 0 1 = (31 : StationPort).val ∧ field [31, 4, 0, 20] 2 2 ≠ 0 ∧
      (some (⟨4, 20⟩ : Binding)).map (fun b => (b.tenant.val, b.segment.val)) =
        some (field [31, 4, 0, 20] 1 1, field [31, 4, 0, 20] 2 2) ∧
      field [31, 4, 0, 0] 2 2 = 0 ∧ inService.ports[asPort 31].link = .disabled ∧
      inService.ports[asPort 5].link ≠ .disabled := ⟨accepting_inService, by decide⟩

theorem test_premises_SegmentDefineSetsTheSegment :
    accepting inService ∧ ([0, 20, 4, 1] : List Byte).length = 4 ∧ field [0, 0, 4, 1] 0 2 = 0 ∧
      1023 < field [4, 0, 4, 1] 0 2 ∧ 2 < field [0, 20, 4, 3] 3 1 ∧ 63 < field [0, 20, 64, 1] 2 1 ∧
      (20 : SegmentId) ≠ 0 ∧ (4 : TenantId) ≠ 0 ∧ field [0, 20, 4, 1] 0 2 = (20 : SegmentId).val ∧
      field [0, 20, 4, 1] 2 1 = (4 : TenantId).val ∧
      field [0, 20, 4, 1] 3 1 = ((some Group.a).map Group.code).getD 0 ∧
      field [0, 20, 4, 0] 3 1 = ((none : Option Group).map Group.code).getD 0 :=
  ⟨accepting_inService, by decide⟩

theorem test_premises_SegmentDefineSetsTheSegment_tables :
    inService.directory.tenants[(4 : TenantId)].defined = true ∧
      inService.directory.tenants[(5 : TenantId)].defined = false ∧
      inService.directory.segments[(21 : SegmentId)] = none ∧
      inService.directory.segments[(20 : SegmentId)] = some ⟨4, some .a⟩ := by decide

theorem test_premises_SegmentRemoveClearsTheSegment :
    accepting inService ∧ ([3, 255] : List Byte).length = 2 ∧ field [0, 0] 0 2 = 0 ∧
      1023 < field [4, 0] 0 2 ∧ (1023 : SegmentId) ≠ 0 ∧
      field [3, 255] 0 2 = (1023 : SegmentId).val := ⟨accepting_inService, by decide⟩

theorem test_premises_StationAddPinsTheStation :
    accepting inService ∧ ([0, 20, 0, 0, 0, 0, 0, 0x51, 5] : List Byte).length = 9 ∧
      isGroupAddress (addressAt [0, 20, 1, 0, 0, 0, 0, 0x51, 5] 2) = true ∧
      31 < field [0, 20, 0, 0, 0, 0, 0, 0x51, 66] 8 1 ∧
      isGroupAddress (addressAt [0, 20, 0, 0, 0, 0, 0, 0x51, 5] 2) = false ∧
      field [0, 20, 0, 0, 0, 0, 0, 0x51, 5] 0 2 = (20 : SegmentId).val ∧
      field [0, 20, 0, 0, 0, 0, 0, 0x51, 5] 8 1 = (Target.port 5).code ∧
      field [0, 20, 0, 0, 0, 0, 0, 0x51, 65] 8 1 = (Target.group .b).code ∧
      inService.directory.segments[(20 : SegmentId)] = some ⟨4, some .a⟩ ∧
      inService.directory.segments[(21 : SegmentId)] = none := ⟨accepting_inService, by decide⟩

theorem test_premises_StationRemoveAndFindNameOneEntry :
    accepting (withEntry entry) ∧ ([0, 20, 0, 0, 0, 0, 0, 0x51] : List Byte).length = 8 ∧
      field [0, 0, 0, 0, 0, 0, 0, 0x51] 0 2 = 0 ∧
      isGroupAddress (addressAt [0, 20, 0, 0, 0, 0, 0, 0x51] 2) = false ∧
      field [0, 20, 0, 0, 0, 0, 0, 0x51] 0 2 = (20 : SegmentId).val ∧
      findEntry? (withEntry entry) 20 (addressAt [0, 20, 0, 0, 0, 0, 0, 0x51] 2) = some entry ∧
      findEntry? inService 20 (addressAt [0, 20, 0, 0, 0, 0, 0, 0x51] 2) = none :=
  ⟨accepting_inService, by decide⟩

theorem test_premises_FlushAndSweepRemoveLearnedEntries :
    accepting (withEntry entry) ∧ ([3, 255] : List Byte).length = 2 ∧ ¬ 1023 < field [3, 255] 0 2 ∧
      1023 < field [4, 0] 0 2 ∧
      ({ inService.stations with sweepElapsed := 300000000 } : StationTable).sweepPeriod * 1000000 ≤
        300000000 := ⟨accepting_inService, by decide⟩

theorem test_premises_SourceCheckLearnsMovesAndGuards :
    classified inService 5 frame ∧ classify inService 5 frame = some ⟨4, 20, .bulk⟩ ∧
      checkTarget inService 5 = some (.port 5) ∧ checkTarget inService 32 = some (.group .a) ∧
      isGroupAddress frame.src = false ∧ isGroupAddress (1 <<< 40 : StationAddr) = true ∧
      findEntry? inService 20 frame.src = none ∧
      findEntry? (withEntry entry) 20 frame.src = some entry ∧ entry.kind ≠ .fixed := by
  unfold classified
  decide

theorem test_premises_SourceCheck_spoof :
    classified (withEntry { entry with kind := .fixed, target := .port 7 }) 5 frame ∧
      classify (withEntry { entry with kind := .fixed, target := .port 7 }) 5 frame =
        some ⟨4, 20, .bulk⟩ ∧
      findEntry? (withEntry { entry with kind := .fixed, target := .port 7 }) 20 frame.src =
        some { entry with kind := .fixed, target := .port 7 } := by
  unfold classified
  decide

theorem test_premises_SourceCheck_targets :
    checkTarget inService 39 = none ∧ entry.target = .port 5 ∧
      findEntry? (withEntry { entry with target := .port 7 }) 20 frame.src =
        some { entry with target := .port 7 } ∧
      findEntry? (withEntry { entry with kind := .fixed }) 20 frame.src =
        some { entry with kind := .fixed } ∧
      inService.directory.tenants[(4 : TenantId)].stationLimit = 2 ∧
      learnedCount (withEntry { entry with address := 0x60 }) 4 = 1 := by decide

/-- A station table that holds the frame's destination alone, on the given port. -/
def reaching (q : StationPort) : State := withEntry { entry with address := 0x52, target := .port q }

theorem test_premises_CopyListsFollowTheDestination_decisions :
    let c : Classified := ⟨4, 20, .bulk⟩
    let list (s : State) (dest : Option Target) : CopyList :=
      copyList (sourceCheck c 5 frame.src s).1 c 5 dest (flowHash 20 frame)
    classify inService 5 frame = some c ∧ isGroupAddress frame.dst = false ∧
      (sourceCheck c 5 frame.src inService).2 = false ∧
      (sourceCheck c 5 frame.src (withEntry { entry with kind := .fixed, target := .port 7 })).2 =
        true ∧
      (findEntry? (sourceCheck c 5 frame.src (reaching 6)).1 20 frame.dst).map StationEntry.target =
        some (.port 6) ∧
      list inService none = ⟨[7, 32], []⟩ ∧ list (reaching 5) (some (.port 5)) = ⟨[], []⟩ ∧
      list (reaching 6) (some (.port 6)) = ⟨[], [.unavailable]⟩ := by decide +kernel

theorem test_flood_refuses_another_tenant :
    copyList
        { inService with
          directory :=
            { inService.directory with applied := inService.directory.applied.set 7 (some ⟨5, 20⟩) } }
        ⟨4, 20, .bulk⟩ 5 none 0 = ⟨[32], [.policy]⟩ := by decide +kernel

theorem test_premises_TrunkGroupReplacesTheMembers :
    accepting idle ∧ ([2, 0x0C] : List Byte).length = 2 ∧ field [0, 1] 0 1 ≠ 1 ∧ field [0, 1] 0 1 ≠ 2 ∧
      field [3, 1] 0 1 ≠ 1 ∧ field [3, 1] 0 1 ≠ 2 ∧ field [1, 1] 0 1 = Group.a.code ∧
      field [2, 0x0C] 0 1 = Group.b.code := ⟨accepting_idle, by decide⟩

theorem test_premises_DataFramesArriveAndAreClassified :
    ¬ received idle 5 ∧ received inService 5 ∧ frame.goodCheck = true ∧ 64 ≤ frame.length ∧
      frame.length ≤ 9216 ∧ ({ frame with length := 63 } : DataFrame).length < 64 ∧
      9216 < ({ frame with length := 9217 } : DataFrame).length := by
  unfold received
  decide

theorem test_premises_DataFramesArriveAndAreClassified_classes :
    (5 : Port) = asPort 5 ∧ 32 ≤ (32 : Port).val ∧ ({ frame with tag := 0 } : DataFrame).tag = 0 ∧
      1023 < ({ frame with tag := 1024 } : DataFrame).tag ∧ frame.tag = (20 : SegmentId).val ∧
      inService.directory.segments[(20 : SegmentId)] = some ⟨4, some .a⟩ ∧
      inService.directory.segments[(21 : SegmentId)] = none ∧ classify inService 6 frame = none := by
  decide

/-- An offer of one frame to one port. -/
def offer (t : TenantId) (cls : TrafficClass) (length : Nat) (copies : List Port) : Offer :=
  { tenant := t, ingress := 5, cls := cls, flowHash := 0, data := { frame with length := length },
    copies := copies }

theorem test_premises_AdmissionStoresThePassingCopies :
    (offer 0 .bulk 600 [7]).copies.Nodup ∧
      tenantCommon (running inService) 0 + 3 ≤
        (running inService).directory.tenants[(0 : TenantId)].quotaCells ∧
      3 ≤ commonFree (running inService) ∧ (running inService).buffer.records.length < 8192 ∧
      (running inService).billing.state ≠ .stopped ∧
      (running inService).billing.meters[(0 : TenantId)] = some (Meters.opened 0) := by decide +kernel

theorem test_premises_AdmissionStoresThePassingCopies_other_storage :
    (offer 4 .bulk 9216 [7]).cls = .bulk ∧ cellsOfLength 9216 = 36 ∧
      ¬ tenantCommon inService 4 + cellsOfLength 25601 ≤
        inService.directory.tenants[(4 : TenantId)].quotaCells ∧
      (offer 4 .held 9216 [7]).cls = .held ∧
      headroomInUse inService 5 + cellsOfLength 9216 ≤ allowance inService 5 := by decide +kernel

theorem test_premises_AdmissionStoresThePassingCopies_passing :
    occupancy inService.buffer inService.buffer.bulk[(7 : Port)] + 3 ≤
        inService.relief.settings.bulkLimit ∧
      occupancy inService.buffer inService.buffer.held[(7 : Port)] + 3 ≤
        inService.relief.settings.heldLimit ∧
      1 ≤ 16384 - entriesInUse inService.buffer := by decide +kernel

theorem test_completion_sends_what_waits :
    (after (.transmissionCompletion 7)
        (modPort 7 (fun u => { u with waitingControl := some .release, waitingBeacon := some 2 })
          (stored true))).lineOut = [.control 7 .release, .beacon 7 2] := by decide +kernel

theorem test_premises_CopiesLeaveByCompletionOrFlush :
    bufferSound (stored true).buffer ∧ sendingClass (stored false) 7 = none ∧
      sendingClass (stored true) 7 = some .held ∧
      queueOf (stored true).buffer .held 7 = ⟨0, false, true⟩ :: [] ∧
      (frameOf? (stored true).buffer 0).isSome = true ∧ (running (stored true)).billing.state ≠ .stopped ∧
      (running (stored true)).billing.meters[(0 : TenantId)] = some (Meters.opened 0) := by
  unfold bufferSound
  decide +kernel

theorem test_premises_SchedulerPrefersHeldUnlessPeerPaused :
    idle.ports[(7 : Port)].link ≠ .up ∧ inService.ports[(7 : Port)].link = .up ∧
      lineBusy (stored true) 7 = true ∧ lineBusy (stored false) 7 = false ∧
      (stored false).buffer.held[(7 : Port)] = ⟨0, false, false⟩ :: [] ∧
      (stored false).ports[(7 : Port)].peerPause = none ∧ (stored false).buffer.streak[(7 : Port)] < 8 ∧
      (frameOf? (stored false).buffer 0).isSome = true ∧ lineBusy storedBulk 7 = false ∧
      storedBulk.buffer.held[(7 : Port)] = [] ∧
      storedBulk.buffer.bulk[(7 : Port)] = ⟨0, false, false⟩ :: [] := by decide +kernel

theorem test_premises_SchedulerPrefersHeldUnlessPeerPaused_arrivals :
    received inService 5 ∧ ¬ received idle 5 ∧ (1 : BitVec 16) ≠ 0 ∧
      (modPort 5 (fun u => { u with peerPause := some 0 }) inService).ports[(5 : Port)].peerPause =
        some 0 := by
  unfold received
  decide

/-- Every held queue CONGESTED with every port a contributor. -/
def crowded : State :=
  { idle with
    relief :=
      { idle.relief with
        congested := Vector.replicate 40 true
        contributors := Vector.replicate 40 (Vector.replicate 40 true) } }

theorem test_relief_report_leaves_out_what_does_not_fit :
    ((reliefReport crowded).drop 496).take 3 = [4, 36, 0] := by decide +kernel

theorem test_premises_ReliefSetReplacesAllSettings :
    accepting idle ∧
      ([0, 40, 0, 4, 0, 60, 0, 8, 0, 4, 0, 3, 0, 200, 0, 100] : List Byte).length = 16 :=
  ⟨accepting_idle, rfl⟩

theorem test_premises_EventsSettlePacingAndGenerators :
    (pacing .pausing true).relief.generators[(5 : Port)].state = .pausing ∧
      (pacing .pausing true).relief.generators[(5 : Port)].timer = some 0 ∧
      (pacing .pausing true).relief.paced[(5 : Port)] = true ∧
      (pacing .pausing false).relief.paced[(5 : Port)] = false ∧
      (pacing .releasing true).relief.generators[(5 : Port)].state = .releasing ∧
      (pacing .releasing true).relief.generators[(5 : Port)].timer = some 0 := by decide

theorem test_premises_BaseTicksMoveTheTimers :
    idle.billing.state = .stopped ∧ running.billing.state ≠ .stopped ∧
      exec (.baseTick 0) idle = .next (after (.baseTick 0) idle) := ⟨rfl, by decide, rfl⟩

theorem test_premises_EnableIsCheckedAndEntersDown :
    (31 : Port).val < 32 ∧ 32 ≤ (32 : Port).val ∧ (0 : Port) ≠ 39 := by decide

/-- The PORT-SET body of the defaults of port 5, enabled as given. -/
def setBody (enabled : Byte) : List Byte :=
  [5, enabled, 3, 48, 0, 100, 0, 16, 20, 4, 19, 136, 0, 0, 0, 96, 0, 50, 5, 0, 60]

theorem test_premises_PortSetReplacesTheRecord :
    accepting idle ∧ (setBody 0).length = 21 ∧ 39 < field (40 :: (setBody 0).tail) 0 1 ∧
      field (setBody 0) 0 1 = (5 : Port).val ∧ field (setBody 2) 1 1 = 2 ∧
      idle.ports[(5 : Port)].link = .disabled ∧ inService.ports[(5 : Port)].link ≠ .disabled ∧
      field (setBody 1) 1 1 = 1 ∧ enableCheck idle 5 48 = none ∧
      enableCheck { idle with directory :=
        { idle.directory with staged := idle.directory.staged.set 5 (some none) } } 5 48 =
          some .state := ⟨accepting_idle, by decide +kernel⟩

theorem test_premises_PortSetReplacesTheRecord_ranges :
    field (setBody 1) 2 1 ≤ 7 ∧ field (setBody 1) 3 1 ≤ 128 ∧ field (setBody 1) 4 2 = 100 ∧
      field (setBody 1) 6 2 = 16 ∧ field (setBody 1) 8 1 = 20 ∧ field (setBody 1) 9 1 = 4 ∧
      field (setBody 1) 10 2 = 5000 ∧ field (setBody 1) 16 2 = 50 ∧ field (setBody 1) 18 1 = 5 ∧
      field (setBody 1) 19 2 = 60 := by decide

theorem test_premises_PortAdjustWritesTheNamedFields :
    accepting idle ∧ 3 ≤ ([2, 0, 3] : List Byte).length ∧ ([2, 0, 3] : List Byte).length ≤ 42 ∧
      ([2, 0, 3] : List Byte).length % 3 = 0 ∧ 39 < (40 : Byte).toNat ∧ adjustPairs [15, 0, 3] = none ∧
      (5 : Byte).toNat = (5 : Port).val ∧
      adjustPairs [2, 0, 3] = some [(.defaultPriority, 3)] ∧
      ConfigField.onPort .defaultPriority 5 = true ∧ ConfigField.inRange .defaultPriority 7 = true ∧
      ConfigField.inRange .defaultPriority 8 = false := ⟨accepting_idle, by decide⟩

theorem test_premises_PortAdjustWritesTheNamedFields_fields :
    (([(.enabled, 1), (.missLimit, 2), (.flapWindowS, 3600)] : List (ConfigField × Nat)).map
        Prod.fst).Nodup ∧
      (∀ fv ∈ ([(.enabled, 1), (.missLimit, 2), (.flapWindowS, 3600)] : List (ConfigField × Nat)),
        fv.1.inRange fv.2 = true) ∧
      ConfigField.inRange .missLimit 1 = false ∧ ConfigField.inRange .missLimit 15 = true ∧
      ConfigField.inRange .missLimit 16 = false := by decide

theorem test_premises_PortAdjustWritesTheNamedFields_cases :
    inService.ports[(5 : Port)].link ≠ .disabled ∧ idle.ports[(5 : Port)].link = .disabled ∧
      idle.ports[(5 : Port)].silence = none ∧
      adjustPairs [3, 0, 1] = some [(.headroomCells, 1)] ∧ adjustPairs [1, 0, 1] = some [(.enabled, 1)] ∧
      adjustPairs [1, 0, 0] = some [(.enabled, 0)] := by decide

/-- EnableAndDisableAskForAChange, PortReportsClearWhatTheyShow. -/
theorem test_premises_PortRequests :
    accepting idle ∧ 39 < (40 : Byte).toNat ∧ (39 : Byte).toNat = (39 : Port).val ∧
      (5 : Byte).toNat = (5 : Port).val := ⟨accepting_idle, by decide⟩

theorem test_premises_ReleaseAndHolddownLeadToDown :
    accepting (linked 5 .barred) ∧ (linked 5 .barred).ports[(5 : Port)].link = .barred ∧
      idle.ports[(5 : Port)].link ≠ .barred ∧
      (modPort 5 (fun u => { u with holddown := some 0 }) (linked 5 .fenced)).ports[(5 : Port)].link =
        .fenced ∧
      (modPort 5 (fun u => { u with holddown := some 0 }) (linked 5 .fenced)).ports[(5 : Port)].holddown =
        some 0 := ⟨accepting_idle, by decide⟩

theorem test_premises_BeaconsAreCountedCheckedAndSent :
    (31 : Port).val < 32 ∧ 32 ≤ (32 : Port).val ∧ idle.ports[(32 : Port)].link = .disabled ∧
      (linked 32 .down).ports[(32 : Port)].link = .down ∧ inService.ports[(32 : Port)].link = .up ∧
      inService.ports[(32 : Port)].reference = none ∧
      (modPort 32 (fun u => { u with reference := some 0 }) inService).ports[(32 : Port)].reference ≠
        some ((2 : Fin 4) - 1) ∧
      (modPort 32 (fun u => { u with beaconTimer := some 0 }) inService).ports[(32 : Port)].beaconTimer =
        some 0 := by decide

theorem test_premises_BeaconsAreCountedCheckedAndSent_cuts :
    ¬ beaconLost inService 32 ∧ beaconLost (fence 32 .peerBreak (noteReception 32 inService)) 32 ∧
      ¬ beaconLost (fence 32 .silent (noteReception 32 inService)) 32 := by
  unfold beaconLost
  decide +kernel

theorem test_premises_ErrorQuietSteadyAndFlapTimersEnd :
    (modPort 5 (fun u => { u with errorWindow := some 0 }) inService).ports[(5 : Port)].errorWindow =
        some 0 ∧
      inService.ports[(5 : Port)].link = .up ∧ idle.ports[(5 : Port)].link ≠ .up ∧
      (inService.ports[(5 : Port)].config).errorThreshold ≤ min 65535 (15 + 1) ∧
      (modPort 5 (fun u => { u with errorCount := 15 }) inService).ports[(5 : Port)].errorCount = 15 ∧
      (modPort 5 (fun u => { u with quietTimer := some 0 }) inService).ports[(5 : Port)].quietTimer =
        some 0 ∧
      (modPort 5 (fun u => { u with steady := some 10000000 }) inService).ports[(5 : Port)].steady =
        some 10000000 ∧
      (modPort 5 (fun u => { u with flapWindow := some 0 }) inService).ports[(5 : Port)].flapWindow =
        some 0 := by decide

/-- CopyListsFollowTheDestination, DisableResetsThePort, FenceWritesTheCaptureAndHolddown,
FenceIsTakenByEveryBlock. -/
theorem test_premises_fence_and_copies :
    (5 : Port) = asPort 5 ∧ (5 : Port).val < 32 ∧ 32 ≤ (32 : Port).val ∧ (7 : Port) ≠ 5 ∧
      groupOfPort inService 32 = some .a ∧ groupOfPort inService 33 ≠ some .a ∧
      (groupTables inService .a).up.getLsbD (32 - 32) = true ∧
      (groupTables (fence 32 .silent inService) .a).up = 0 ∧
      (groupTables (disablePort 32 inService) .a).up = 0 := by decide +kernel

/-- One held copy waiting on trunk 32, whose group has the member 33 UP as well. -/
def queued : State :=
  { stored false with
    forwarding := { inService.forwarding with groupA := ⟨0x03, 0x03⟩ }
    buffer :=
      { (stored false).buffer with
        held := inService.buffer.held.set 32 [{ frame := 0, marked := false, inTransmission := false }] } }

theorem test_premises_fence_of_a_trunk :
    bufferSound queued.buffer ∧ (frameOf? queued.buffer 0).isSome = true ∧
      moves queued 32 ⟨0, false, false⟩ = true ∧
      rehomeMember queued 32 ⟨0, false, false⟩ = some 33 ∧
      lostCopies queued 32 = [] ∧ lostCopies (stored false) 7 = [⟨0, false, false⟩] ∧
      lineBusy (stored true) 7 = true := by
  unfold bufferSound
  decide +kernel

theorem test_fence_rehomes :
    ((fence 32 .silent queued).buffer.held[(33 : Port)],
        (fence 32 .silent queued).ports[(32 : Port)].capture.map fun c => (c.copiesFlushed, c.copiesRehomed)) =
      ([⟨0, false, false⟩], some (0, 1)) := by decide +kernel

theorem test_premises_FaultsInUpFenceThePort :
    inService.ports[(32 : Port)].link = .up ∧
      (modPort 32 (fun u => { u with silence := some 30000 }) inService).ports[(32 : Port)].silence =
        some 30000 ∧
      (inService.ports[(32 : Port)].config).missLimit * (inService.ports[(32 : Port)].config).beaconMs *
        1000 ≤ 30000 ∧
      (modPort 5 (fun u => { u with receivedBreak := some ⟨0, false⟩ })
        inService).ports[(5 : Port)].receivedBreak = some ⟨0, false⟩ ∧
      (modPort 5 (fun u => { u with lineGood := true }) inService).ports[(5 : Port)].lineGood = true := by decide

theorem test_premises_LineGoodDrivesQualification :
    (modPort 5 (fun u => { u with lineGood := true }) (linked 5 .down)).ports[(5 : Port)].lineGood =
        true ∧
      (linked 5 .down).ports[(5 : Port)].link = .down ∧ probing.ports[(5 : Port)].link = .probing ∧
      (linked 5 .barred).ports[(5 : Port)].link = .barred ∧ idle.ports[(5 : Port)].lineGood = false ∧
      (modPort 5 (fun u => { u with qualification := some 0 })
        (linked 5 .down)).ports[(5 : Port)].qualification = some 0 ∧
      idle.measurement.inProgress = none ∧ idle.measurement.recovery = [] ∧
      probing.measurement.inProgress ≠ none := by decide

theorem test_premises_BreaksAreMeasuredAndCounted :
    idle.ports[(5 : Port)].receivedBreak = none ∧ idle.ports[(5 : Port)].link ≠ .up ∧
      (modPort 5 (fun u => { u with receivedBreak := some ⟨0, false⟩ })
        idle).ports[(5 : Port)].receivedBreak = some ⟨0, false⟩ ∧
      (modPort 5 (fun u => { u with receivedBreak := some ⟨1, false⟩ })
        idle).ports[(5 : Port)].receivedBreak = some ⟨1, false⟩ ∧
      (modPort 5 (fun u => { u with receivedBreak := some ⟨0, true⟩ })
        idle).ports[(5 : Port)].receivedBreak = some ⟨0, true⟩ ∧
      (modPort 5 (fun u => { u with breakTimer := some 0 }) idle).ports[(5 : Port)].breakTimer =
        some 0 := by decide

theorem test_premises_MeasurementDeliversItsResult :
    probing.measurement.inProgress = some ⟨⟨0, 5, .recovery, .probing⟩, 0, false⟩ ∧
      (measuring .host).measurement.inProgress = some ⟨⟨0, 5, .host, .probing⟩, 0, false⟩ ∧
      probing.ports[(5 : Port)].link = .probing ∧ probing.ports[(5 : Port)].presentRequest = some 0 ∧
      idle.ports[(5 : Port)].link ≠ .probing ∧
      (probing.ports[(5 : Port)].config).marginThreshold = 96 ∧
      idle.link.notices.measureDone = none := by decide

theorem test_premises_MeasureRequestsAreFiledInOrder :
    accepting inService ∧ 39 < (40 : Byte).toNat ∧ (39 : Byte).toNat = (39 : Port).val ∧
      probing.measurement.inProgress ≠ none ∧ idle.measurement.inProgress = none ∧
      idle.measurement.recovery = [] ∧ idle.measurement.host = [] ∧
      ({ idle.measurement with host := [⟨0, 5, .host, .up⟩] } : Measurement).host =
        ⟨0, 5, .host, .up⟩ :: [] ∧
      ({ idle.measurement with recovery := [⟨0, 5, .recovery, .probing⟩] } : Measurement).recovery =
        ⟨0, 5, .recovery, .probing⟩ :: [] := ⟨accepting_inService, by decide⟩

/-- BillStartHoldAndResumeSwitchTheState, BillCloseAndStopCloseTheEpoch, BillSetAndLockAnswer,
BillDrainHandsOverRecords. -/
theorem test_premises_billing_requests :
    accepting running ∧ running.billing.queue.length ≤ 256 ∧ ([3, 0, 1] : List Byte).length = 3 ∧
      3 < field [4, 0, 1] 0 1 ∧ field [3, 0, 0] 1 2 = 0 ∧ field [3, 0, 1] 0 1 = TickSelect.s1.code ∧
      field [3, 0, 1] 1 2 ≠ 0 := ⟨accepting_idle, by decide⟩

theorem test_premises_BillSetAndLockAnswer_lock :
    ¬ restarts .frameSendEnd State.reset ∧
      exec .frameSendEnd (billed (fun b => { b with lock := true }) idle) =
        .next (after .frameSendEnd (billed (fun b => { b with lock := true }) idle)) ∧
      (billed (fun b => { b with lock := true }) idle).billing.lock = true := by
  refine ⟨?_, rfl, rfl⟩
  unfold restarts
  decide

theorem test_premises_BillQueryReportsTheEpoch :
    (billed fun b => { b with staged := some (.ms1, 7) }).billing.staged = some (.ms1, 7) ∧
      running.billing.staged = none ∧ 63 < (64 : Byte).toNat ∧ (63 : Byte).toNat = (63 : TenantId).val ∧
      running.directory.tenants[(63 : TenantId)].defined = false ∧
      running.directory.tenants[(0 : TenantId)].defined = true ∧ idle.billing.state = .stopped ∧
      running.billing.meters[(0 : TenantId)] = some (Meters.opened 0) := by decide

theorem test_premises_EpochTicksSampleCountAndExpire :
    running.billing.state = .running ∧ running.billing.overdue = false ∧
      (billed fun b => { b with state := .held }).billing.state = .held ∧
      (billed fun b => { b with tickElapsed := 1000000 }).billing.tickSelect.micros ≤ 1000000 ∧
      running.billing.count + 1 < running.billing.length ∧
      (billed fun b => { b with count := 3599 }).billing.length ≤ 3599 + 1 ∧
      (definedTenants running).length ≤ 256 - running.billing.queue.length ∧
      256 - (billed fun b => { b with queue := List.replicate 256 record }).billing.queue.length <
        (definedTenants running).length := by decide +kernel

/-- The idle part meets the premise of every invariant, and steps to a next state. -/
theorem test_premises_invariants :
    reliefSettled idle ∧ stationsSorted idle ∧ onePerPort idle ∧ step idle = .next idle := by
  unfold reliefSettled stationsSorted onePerPort
  exact ⟨by decide, List.Pairwise.nil, List.nodup_nil, rfl⟩

theorem test_premises_invariants_of_links : membershipUp idle ∧ pacedRight idle := by
  unfold membershipUp pacedRight
  refine ⟨⟨by decide, ?_⟩, by decide +kernel⟩
  intro g
  cases g <;> decide +kernel

theorem test_premises_invariants_of_bounds : bounded idle ∧ configured idle := by
  unfold bounded blocksBounded portBounded configured portConfigured
  decide +kernel

theorem test_premises_invariants_of_tables :
    tablesSized idle ∧ engineBusy idle ∧ gapTimed idle ∧ resultsAscending idle := by
  refine ⟨⟨⟨fun _ => Nat.zero_le _, ?_⟩, ?_, ?_, ?_⟩, ?_, ?_, List.Pairwise.nil⟩
  · decide
  · unfold bufferSized
    decide +kernel
  · unfold tenantsSized
    decide +kernel
  · refine ⟨by decide, by decide, ?_, by decide⟩
    intro x h
    simp [idle, State.reset, State.restarted, Billing.initial, modLink] at h
  · unfold engineBusy
    decide
  · unfold gapTimed
    decide

theorem test_premises_invariant_of_accounts : accounted idle := by
  refine ⟨by unfold bufferSound; decide +kernel, ⟨rfl, ?_, ?_⟩, ?_, by unfold metersOpen; decide +kernel, ?_⟩
  · intro g x h
    simp [idle, State.reset, State.restarted, Directory.initial, modLink] at h
  · intro q b h
    simp [idle, State.reset, State.restarted, Directory.initial, modLink] at h
  · intro kr h
    exact absurd h (List.not_mem_nil)
  · intro t m h
    simp [idle, State.reset, State.restarted, Billing.initial, modLink] at h

end Sys2Proof.Tests
end

/-! The report of the Forwarding Engine (R53): what its reply carries, and that the engine stays as it is. -/

namespace Sys2Proof.Machine

open Sys2Proof Sys2Proof.Safety

/-- A byte written in one byte is that byte. -/
@[simp] theorem bytesOf_one_toNat (b : Byte) : bytesOf 1 b.toNat = [b] := by
  simp [bytesOf]

/-- R53: the report changes no state. -/
@[simp] theorem forwardStatus_fst (body : List Byte) (s : State) : (forwardStatus body s).1 = s := rfl

/-- R53, Table 10-5: the status, the member set and the UP membership of groups A and B, then the three
counts of each port. -/
theorem forwardStatus_reply (body : List Byte) (s : State) :
    (forwardStatus body s).2.body =
      [0x00, s.forwarding.groupA.members, s.forwarding.groupA.up, s.forwarding.groupB.members,
        s.forwarding.groupB.up] ++
        (List.finRange 40).flatMap fun p =>
          bytesOf 4 s.forwarding.filtered[p].toNat ++
            bytesOf 4 s.forwarding.refusedPolicy[p].toNat ++
            bytesOf 4 s.forwarding.refusedUnavailable[p].toNat := by
  have ok : Status.ok.code = 0x00 := rfl
  simp only [forwardStatus, Answer.body, ok, bytesOf_one_toNat, List.cons_append, List.nil_append]

/-- Settles O24: the frame is a request of an allowed length, so its owner answers it in the state whose
assembler hunts, and that state has the same Forwarding Engine. -/
theorem forwardStatusReportsGroupsAndCounts : Obligations.ForwardStatusReportsGroupsAndCounts := by
  intro tag s accepts
  have served : exec (.forwardStatus tag []) s =
      performed 0x11 tag (forwardStatus [] (hunted s)).2.body (forwardStatus [] (hunted s)).1 :=
    (exec_of_message _ ⟨0x11, tag, []⟩ s rfl).trans (request_of_length 0x11 tag [] s accepts rfl)
  rw [served, forwardStatus_reply, forwardStatus_fst, hunted_forwarding]

end Sys2Proof.Machine

/-! The restarts and the Billing Unit (R159): which commands restart the part and with which cause, and what a
restart leaves in billing, in its two flags and in the restart record. -/

namespace Sys2Proof.Machine

open Sys2Proof Sys2Proof.Safety

/-- R159: the Billing Unit at its values after a restart. -/
@[simp] theorem restartPart_billing (cause : RestartCause) (lineHigh : Bool) (s : State) :
    (restartPart cause lineHigh s).billing = Billing.initial := rfl

/-- R165, R167: READY alone is pending, with the restart record as its detail. -/
@[simp] theorem restartPart_notices (cause : RestartCause) (lineHigh : Bool) (s : State) :
    (restartPart cause lineHigh s).link.notices =
      { Notices.clear with ready := some (restartRecordOf cause s) } := rfl

/-- R167: the record written is the one read from the state before the restart. -/
@[simp] theorem restartPart_restartRecord (cause : RestartCause) (lineHigh : Bool) (s : State) :
    (restartPart cause lineHigh s).link.restartRecord = restartRecordOf cause s := rfl

/-- R143: no meters are open after a restart. -/
@[simp] theorem initial_meters (t : TenantId) : Billing.initial.meters[t] = none :=
  Vector.getElem_replicate t.isLt

/-- Billing is in one of the two states of an open epoch exactly where it is not STOPPED. -/
theorem ne_stopped_iff (b : BillingState) : b ≠ .stopped ↔ b = .running ∨ b = .held := by
  cases b <;> decide

/-- R167: the record of a PIN or COMMAND restart reads YES exactly where billing was RUNNING or HELD. -/
theorem restartRecordOf_epochOpen_iff {cause : RestartCause} (s : State) (kind : cause ≠ .power) :
    (restartRecordOf cause s).epochOpen = .yes ↔
      s.billing.state = .running ∨ s.billing.state = .held := by
  rw [← ne_stopped_iff]
  cases cause with
  | power => exact absurd rfl kind
  | pin | command => by_cases stopped : s.billing.state = .stopped <;> simp [restartRecordOf, stopped]

/-- R167: the record of a PIN or COMMAND restart counts the records that were queued. -/
theorem restartRecordOf_recordsLost {cause : RestartCause} (s : State) (kind : cause ≠ .power) :
    (restartRecordOf cause s).recordsLost = s.billing.queue.length := by
  cases cause with
  | power => exact absurd rfl kind
  | pin | command => rfl

/-- R169: the restart of cause COMMAND takes place at the end of the sending of RESTART's reply. -/
theorem endSending_of_restartReply (s : State) (reply : s.link.sending.any isRestartReply = true) :
    endSending s = restartPart .command s.link.restartLineHigh s := by
  cases sent : s.link.sending with
  | none => simp [sent] at reply
  | some x =>
    have isReply : isRestartReply x = true := by simpa [sent] using reply
    simp only [endSending, sent, isReply, if_true]

/-- R167: a command that restarts the part answers the restarted part, with the cause POWER at the
application of power alone. -/
theorem exec_of_restarts {c : Instr} {s : State} (h : restarts c s) :
    ∃ cause lineHigh, exec c s = .next (restartPart cause lineHigh s) ∧
      (cause = .power ↔ c = .powerRestart) := by
  obtain rfl | ⟨rfl, high⟩ | ⟨rfl, reply⟩ := h
  · exact ⟨.power, s.link.restartLineHigh, rfl, by decide⟩
  · have falls : exec .pinRestart s = .next (restartPart .pin false s) :=
      congrArg Host.Outcome.next (if_pos high)
    exact ⟨.pin, false, falls, by decide⟩
  · have ends : exec .frameSendEnd s = .next (restartPart .command s.link.restartLineHigh s) :=
      congrArg Host.Outcome.next (endSending_of_restartReply s reply)
    exact ⟨.command, s.link.restartLineHigh, ends, by decide⟩

/-- Settles O3: the command answers the restarted part, whose Billing Unit and flags are those of a restart
and whose record, of any cause but POWER, was read from the state before. -/
theorem restartLeavesBillingStopped : Obligations.RestartLeavesBillingStopped := by
  intro c s h
  obtain ⟨cause, lineHigh, answers, isPower⟩ := exec_of_restarts h
  refine ⟨restartPart cause lineHigh s, answers, rfl, rfl, rfl, ?meters, rfl, rfl, rfl, rfl, rfl, rfl, rfl,
    rfl, ?figures⟩
  case meters => exact initial_meters
  case figures =>
    intro notPower
    have kind : cause ≠ .power := mt isPower.mp notPower
    exact ⟨restartRecordOf_epochOpen_iff s kind, restartRecordOf_recordsLost s kind⟩

end Sys2Proof.Machine

/-! The report of HELLO (R168): the range of the revision letter, what the reply carries, and that the owner
changes nothing. -/

namespace Sys2Proof.Machine

open Sys2Proof Sys2Proof.Safety

/-- The letter's code: no reduction modulo 256 takes place, as there are 26 letters from 0x41 on. -/
theorem revisionByte_toNat : revisionByte.toNat = 0x41 + Config.siliconRevision.val := by
  have small : Config.siliconRevision.val < 26 := Config.siliconRevision.isLt
  exact Nat.mod_eq_of_lt (by omega)

/-- R168: the silicon revision is an ASCII capital letter, A to Z. -/
theorem revisionByte_capital : 0x41 ≤ revisionByte ∧ revisionByte ≤ 0x5A := by
  have small : Config.siliconRevision.val < 26 := Config.siliconRevision.isLt
  have code := revisionByte_toNat
  constructor <;> bv_omega

/-- R168: HELLO changes no state. -/
@[simp] theorem hello_fst (body : List Byte) (s : State) : (hello body s).1 = s := rfl

/-- R168, Table 10-5: the status, the family and part codes and the revision letter, then the restart record
and the link error count. -/
theorem hello_reply (body : List Byte) (s : State) :
    (hello body s).2.body =
      [0x00, 0x62, 0x28, revisionByte] ++ s.link.restartRecord.bytes ++
        bytesOf 4 s.link.linkErrors.toNat := rfl

/-- Settles O12: the frame is a request of an allowed length, so HELLO is answered in the state whose
assembler hunts: there a gap that stood too long is counted already, and the restart record is as before. -/
theorem helloReportsThePart : Obligations.HelloReportsThePart := by
  intro tag s accepts
  obtain ⟨fromA, toZ⟩ := revisionByte_capital
  refine ⟨revisionByte, fromA, toZ, ?_⟩
  have served : exec (.hello tag []) s =
      performed 0x3D tag (hello [] (hunted s)).2.body (hello [] (hunted s)).1 :=
    (exec_of_message _ ⟨0x3D, tag, []⟩ s rfl).trans (request_of_length 0x3D tag [] s accepts rfl)
  have sameRecord : (hunted s).link.restartRecord = s.link.restartRecord := rfl
  rw [served, hello_reply, hello_fst, sameRecord]

end Sys2Proof.Machine

/-! The steps and the restarts (R167): what a step takes, that every command answers a next state, and what the
part holds after a restart and on leaving it. -/

namespace Sys2Proof.Machine

open Sys2Proof Sys2Proof.Safety

/-- Settles O1: `step` is defined by the cases of the queue. -/
theorem stepTakesTheFrontCommand : Obligations.StepTakesTheFrontCommand := by
  constructor
  · intro c rest s waiting
    simp only [step, waiting]
  · intro s empty
    simp only [step, empty]

/-! ### The queue of waiting commands -/

@[simp] theorem takeLinkEvent_pending (s : State) (e : LinkEvent) :
    (takeLinkEvent s e).pending = s.pending := by
  cases e <;> simp [takeLinkEvent]

@[simp] theorem assemble_pending (bytes : List Byte) (s : State) :
    (assemble bytes s).pending = s.pending := by
  simp [assemble, foldl_keeps (g := State.pending) takeLinkEvent_pending]

@[simp] theorem receiveBytes_pending (bytes : List Byte) (s : State) :
    (receiveBytes bytes s).pending = s.pending := by
  simp only [receiveBytes]
  split_ifs <;> simp

@[simp] theorem frameArrival_pending (m : Message) (s : State) :
    (frameArrival m s).pending = s.pending := by
  simp only [frameArrival]
  split_ifs <;> simp

@[simp] theorem restartPart_pending (cause : RestartCause) (lineHigh : Bool) (s : State) :
    (restartPart cause lineHigh s).pending = s.pending := rfl

@[simp] theorem leavePart_pending (s : State) : (leavePart s).pending = s.pending := by
  simp [leavePart]

@[simp] theorem endSending_pending (s : State) : (endSending s).pending = s.pending := by
  unfold endSending
  repeat' split
  all_goals simp

@[simp] theorem controlArrival_pending (p : Port) (act : State → State) (s : State)
    (h : ∀ t, (act t).pending = t.pending) : (controlArrival p act s).pending = s.pending := by
  simp only [controlArrival]
  split_ifs <;> simp [h]

/-- A command that carries a good frame answers what the frame's arrival leaves. -/
theorem exec_of_frame {i : Instr} {m : Message} (s : State) (h : i.message? = some m) :
    exec i s = .next (frameArrival m s) := exec_of_message i m s h

/-- Settles O2: a frame's arrival, bytes, the end of a sending and the restarts answer what they leave, and an
event answers what it leaves where it occurs; none of them touches the queue. -/
theorem everyCommandAnswersANextState : Obligations.EveryCommandAnswersANextState := by
  intro c s
  cases carried : c.message? with
  | some m => exact ⟨_, exec_of_frame s carried, frameArrival_pending m s⟩
  | none =>
    cases c with
    | framingError bytes | byteGapTimeout bytes => exact ⟨_, rfl, receiveBytes_pending bytes s⟩
    | frameSendEnd => exact ⟨_, rfl, endSending_pending s⟩
    | powerRestart => exact ⟨_, rfl, restartPart_pending _ _ s⟩
    | pinRestart | leaveRestart =>
      refine ⟨_, rfl, ?_⟩
      split_ifs <;> simp
    | transmissionCompletion p =>
      refine ⟨_, rfl, ?_⟩
      split <;> simp
    | frameReceptionBegin | dataFrameArrival | pauseFrameReceived | releaseFrameReceived | beaconReceived
    | baseTick =>
      refine ⟨_, rfl, ?_⟩
      simp
    | peerPauseExpiry | beaconTimerExpiry | errorWindowEnd | silenceTimerExpiry | quietTimerExpiry
    | lineGoodDrop | lineGoodRise | qualificationComplete | receivedBreakBegin | receivedBreakEnd
    | breakDetected | breakSendEnd | holddownExpiry | steadyTimerComplete | flapWindowExpiry
    | pausingPhaseExpiry | releasingPhaseExpiry | measurementComplete | agingSweep | epochTick
    | epochExpiry =>
      refine ⟨_, rfl, ?_⟩
      split_ifs <;> simp
    | _ => exact absurd carried (by simp [Instr.message?, Instr.requestKind?, Instr.frameParts?])

/-! ### Restarts -/

/-- In restart a good frame is lost. -/
theorem frameArrival_of_inRestart (m : Message) {s : State} (h : s.link.inRestart = true) :
    frameArrival m s = s := if_pos h

/-- R164, R165, R167: on leaving restart the free transmitter takes READY, the highest-ranked notice. -/
theorem leavePart_eq (s : State) :
    leavePart s =
      { s with
        link :=
          { rx := [], gap := none, places := [], overflow := none
            sending := some
              { source := .notice,
                message := { kind := 0x40, tag := 0, body := s.link.restartRecord.bytes } }
            notices := Notices.clear, noticeCount := 1, mask := 0xFFFF, linkErrors := 0
            restartRecord := s.link.restartRecord, inRestart := false, restartHanded := false
            restartLineHigh := true } } := by
  have ready : nextNotice { s with link := { Link.initial s.link.restartRecord true with inRestart := false } } =
      some (.ready, s.link.restartRecord.bytes) := by
    simp [nextNotice, NoticeKind.all, Link.initial, noticeBody, NoticeKind.index]
  simp only [leavePart, transmit, ready]
  rfl

/-- Settles O4: the three restarts are `restartPart` with their causes, the leaving is `leavePart`, and a frame
that arrives in restart is lost. -/
theorem restartsReturnEveryBlock : Obligations.RestartsReturnEveryBlock := by
  refine ⟨fun s => ⟨rfl, fun high => congrArg Host.Outcome.next (if_pos high), ?_⟩, ?_, ?_⟩
  · intro x sent place kind body
    have reply : isRestartReply x = true := by simp [isRestartReply, place, kind, body, replyKind, Status.code]
    exact congrArg Host.Outcome.next (endSending_of_restartReply s (by simp [sent, reply]))
  · intro s inRestart
    exact congrArg Host.Outcome.next ((if_pos inRestart).trans (leavePart_eq s))
  · intro i m s carried inRestart
    rw [exec_of_frame s carried, frameArrival_of_inRestart m inRestart]

end Sys2Proof.Machine

/-! The management link (R160 to R166, R169): the assembler over sequences of frames, the places and the overflow
slot, the checks of kind and length, the transmitter's choice, RESTART and NOTICE-MASK. -/

namespace Sys2Proof.Machine

open Sys2Proof Sys2Proof.Safety

/-! ### The assembler (R161) -/

/-- An encoded message is the marker and the bytes that follow it. -/
theorem encode_cons (m : Message) (after : List Byte) :
    m.encode ++ after = marker :: (m.encode.tail ++ after) := rfl

/-- A transmitter's choice and a taken frame leave the assembler hunting. -/
theorem hunting_after_frame (m : Message) (s : State) :
    (transmit (takeFrame m (hunt s))).link.rx = [] ∧ (transmit (takeFrame m (hunt s))).link.gap = none := by
  constructor <;> simp [hunt, modLink]

/-- A frame that arrives while the assembler hunts is taken. -/
theorem frameArrival_of_hunt (m : Message) {s : State} (hr : s.link.inRestart = false)
    (hx : s.link.rx = []) (hg : s.link.gap = none) :
    frameArrival m s = transmit (takeFrame m (hunt s)) := by
  have still : gapTimeout s = s := gapTimeout_of_within s (by simp [hg])
  simp [frameArrival, hr, still, hx]

/-- Frames that come one after another are found one after another. -/
theorem assemble_frames (ms : List Message) (s : State) (fits : ∀ m ∈ ms, m.body.length ≤ 1024)
    (hx : s.link.rx = []) (hg : s.link.gap = none) (hr : s.link.inRestart = false) :
    assemble (ms.flatMap Message.encode) s = ms.foldl (fun acc m => frameArrival m acc) s := by
  induction ms generalizing s with
  | nil =>
    have nothing := hunt_of_hunting hx hg
    simp only [List.flatMap_nil, List.foldl_nil, assemble, hx, List.append_nil, List.length_nil, scan, nothing]
    exact nothing
  | cons m ms ih =>
    obtain ⟨hx', hg'⟩ := hunting_after_frame m s
    have taken := frameOf_encode m (ms.flatMap Message.encode) (fits m List.mem_cons_self)
    have first : s.link.rx ++ (m :: ms).flatMap Message.encode =
        marker :: (m.encode.tail ++ ms.flatMap Message.encode) := by
      rw [hx, List.nil_append, List.flatMap_cons, encode_cons]
    have hr' : (transmit (takeFrame m (hunt s))).link.inRestart = false := by simp [hunt, hr]
    rw [assemble_of_good first taken, List.foldl_cons, frameArrival_of_hunt m hr hx hg]
    exact ih _ (fun x hm => fits x (List.mem_cons_of_mem _ hm)) hx' hg' hr'

/-- R160: the check of no bytes is the initial value, and each byte is taken by eight steps of the polynomial. -/
theorem crc16_append (bytes : List Byte) (b : Byte) : crc16 (bytes ++ [b]) = crcByte (crc16 bytes) b := by
  simp [crc16]

/-- Settles O6, by induction on the frames for the sequence, by the definitions for the envelope and its check. -/
theorem encodedFramesAreReceivedInOrder : Obligations.EncodedFramesAreReceivedInOrder := by
  refine ⟨?sequence, ?envelope, ⟨rfl, ?check⟩, ?arrival⟩
  case sequence =>
    intro ms s fits hx hg hr
    rw [receiveBytes_of_hunting _ hr hx hg]
    exact assemble_frames ms s fits hx hg hr
  case envelope =>
    intro m
    simp [Message.encode, Message.content, marker]
  case check => exact crc16_append
  case arrival =>
    intro i m s carried
    refine ⟨exec_of_frame s carried, fun receiving => ?_⟩
    rw [exec_of_frame s carried, frameArrival_of_receiving m s receiving]

/-- R161: bytes make a bad frame exactly for a length above 1,024 or a whole frame whose check differs. -/
theorem frameOf_bad_iff (bytes : List Byte) :
    frameOf bytes = .bad ↔
      4 ≤ bytes.length ∧
        (1024 < field bytes 2 2 ∨
          field bytes 2 2 + 6 ≤ bytes.length ∧
            field bytes (4 + field bytes 2 2) 2 ≠ (crc16 (bytes.take (4 + field bytes 2 2))).toNat) := by
  simp only [frameOf]
  split_ifs <;> simp <;> omega

/-- R161: bytes are unfinished exactly where the length or the bytes it counts are not all there. -/
theorem frameOf_unfinished_iff (bytes : List Byte) :
    frameOf bytes = .unfinished ↔
      bytes.length < 4 ∨ field bytes 2 2 ≤ 1024 ∧ bytes.length < field bytes 2 2 + 6 := by
  simp only [frameOf]
  split_ifs <;> simp <;> omega

/-- Two bytes are the two bytes of the number that they carry. -/
theorem bytesOf_two_beNat (a b : Byte) : bytesOf 2 (beNat [a, b]) = [a, b] := by
  have hi : (a.toNat * 256 + b.toNat) / 256 = a.toNat := by omega
  have lo : BitVec.ofNat 8 (a.toNat * 256 + b.toNat) = b := by
    apply BitVec.eq_of_toNat_eq
    simp only [BitVec.toNat_ofNat]
    omega
  rw [bytesOf_two]
  simp [beNat, hi, lo]

/-- Two bytes of a list, read as a number and written again. -/
theorem bytesOf_two_field (bytes : List Byte) (i : Nat) (h : i + 2 ≤ bytes.length) :
    bytesOf 2 (field bytes i 2) = (bytes.drop i).take 2 := by
  obtain ⟨a, b, two⟩ : ∃ a b, (bytes.drop i).take 2 = [a, b] := by
    apply List.length_eq_two.mp
    simp only [List.length_take, List.length_drop]
    omega
  rw [field, two, bytesOf_two_beNat]

/-- A good frame is the envelope of its message. -/
theorem encode_of_good {bytes after : List Byte} {m : Message} (h : frameOf bytes = .good m after) :
    m.body.length ≤ 1024 ∧ marker :: bytes = m.encode ++ after := by
  simp only [frameOf] at h
  split_ifs at h with h4 hn hl hc
  obtain ⟨rfl, rfl⟩ := Frame.good.inj h
  set n := field bytes 2 2 with length_eq
  have body : ((bytes.drop 4).take n).length = n := by
    simp only [List.length_take, List.length_drop]
    omega
  refine ⟨by rw [body]; omega, ?_⟩
  obtain ⟨kind, tag, rest, rfl⟩ : ∃ kind tag rest, bytes = kind :: tag :: rest := by
    match bytes with
    | [] | [_] => simp at h4
    | kind :: tag :: rest => exact ⟨kind, tag, rest, rfl⟩
  have written : bytesOf 2 n = rest.take 2 := bytesOf_two_field _ 2 (by omega)
  have content : Message.content ⟨kind, tag, (rest.drop 2).take n⟩ = (kind :: tag :: rest).take (4 + n) := by
    have split : rest.take (2 + n) = rest.take 2 ++ (rest.drop 2).take n := List.take_add
    have four : (kind :: tag :: rest).take (4 + n) = kind :: tag :: rest.take (2 + n) := by
      rw [show 4 + n = (2 + n) + 1 + 1 by omega, List.take_succ_cons, List.take_succ_cons]
    rw [four, split, ← written]
    simp only [List.drop_succ_cons] at body
    simp [Message.content, body]
  have check : bytesOf 2 (crc16 ((kind :: tag :: rest).take (4 + n))).toNat =
      ((kind :: tag :: rest).drop (4 + n)).take 2 := by
    rw [← hc]
    exact bytesOf_two_field _ _ (by omega)
  have parts : (kind :: tag :: rest).take (4 + n) ++ ((kind :: tag :: rest).drop (4 + n)).take 2 ++
      (kind :: tag :: rest).drop (n + 6) = kind :: tag :: rest := by
    rw [← List.take_add, show 4 + n + 2 = n + 6 by omega, List.take_append_drop]
  simp only [Message.encode, List.getD_cons_zero, List.getD_cons_succ, List.drop_succ_cons, content, check,
    List.cons_append, List.cons.injEq, true_and]
  exact parts.symm

/-- R160, R161: a good frame is exactly the envelope of its message. -/
theorem frameOf_good_iff (bytes after : List Byte) (m : Message) :
    frameOf bytes = .good m after ↔ m.body.length ≤ 1024 ∧ marker :: bytes = m.encode ++ after := by
  refine ⟨encode_of_good, fun ⟨fits, whole⟩ => ?_⟩
  rw [encode_cons, List.cons.injEq] at whole
  rw [whole.2, frameOf_encode m after fits]

/-- A byte that is no marker is discarded while the assembler hunts. -/
theorem assemble_cons_of_ne_marker {b : Byte} (bytes : List Byte) {s : State} (hb : b ≠ marker)
    (hx : s.link.rx = []) : assemble (b :: bytes) s = assemble bytes s := by
  simp [assemble, hx, scan, hb]

/-- The gap is over once the frame in reception is discarded. -/
theorem gapTimeout_counted (s : State) :
    gapTimeout (countLinkError (hunt s)) = countLinkError (hunt s) :=
  gapTimeout_of_within _ (by simp [hunt, countLinkError, modLink])

/-- Settles O7: the frames of a list of bytes by the branches of `frameOf`, the assembler by its first report on the
bytes in reception and those that come. -/
theorem assemblerDiscardsBadFrames : Obligations.AssemblerDiscardsBadFrames := by
  refine ⟨fun bytes => ⟨frameOf_bad_iff bytes, frameOf_unfinished_iff bytes,
    fun m after => frameOf_good_iff bytes after m⟩, ?_⟩
  intro bytes s out
  have out' : (countLinkError (hunt s)).link.inRestart = false := out
  refine ⟨⟨rfl, rfl⟩, ?frames, ?noise, ?gaps⟩
  case frames =>
    intro rest some_bytes short joined
    have comes : receiveBytes bytes s = assemble bytes s := by
      have still : gapTimeout s = s := if_neg (by rw [show gapLimit = 20000 from rfl, short]; decide)
      simp [receiveBytes, out, some_bytes, still]
    refine ⟨fun bad => ?_, fun unfinished => ?_, fun m after good => ?_⟩
    · refine congrArg Host.Outcome.next ?_
      rw [comes, assemble_of_bad joined bad]
      exact (receiveBytes_of_hunting rest out' rfl rfl).symm
    · exact congrArg Host.Outcome.next (comes.trans (assemble_of_unfinished joined unfinished))
    · refine congrArg Host.Outcome.next ?_
      obtain ⟨hx', hg'⟩ := hunting_after_frame m s
      have hr' : (transmit (takeFrame m (hunt s))).link.inRestart = false := by simp [hunt, out]
      have arrives := frameArrival_of_hunt m (s := hunt s) out rfl rfl
      rw [comes, assemble_of_good joined good, ← receiveBytes_of_hunting after hr' hx' hg']
      exact congrArg (receiveBytes after) arrives.symm
  case noise =>
    intro hx hg b hb
    rw [receiveBytes_of_hunting _ out hx hg, receiveBytes_of_hunting _ out hx hg]
    exact assemble_cons_of_ne_marker bytes hb hx
  case gaps =>
    intro n timed
    refine ⟨fun passed => ?_, fun within => ?_⟩
    · have discards := gapTimeout_of_passed s n timed passed
      refine ⟨congrArg Host.Outcome.next (by simp [receiveBytes, out, discards]; rfl), fun b => ?_⟩
      have same : receiveBytes (b :: bytes) s = receiveBytes (b :: bytes) (countLinkError (hunt s)) := by
        simp [receiveBytes, out, discards, gapTimeout_counted]
      exact same
    · have still := gapTimeout_of_within s (fun k hk => by
        rw [timed] at hk
        exact Option.some.inj hk ▸ within)
      exact congrArg Host.Outcome.next (by simp [receiveBytes, out, still])

/-! ### Places, the overflow slot and the checks of kind and length (R162, R163) -/

/-- A frame that finds the assembler hunting is taken by the part that hunts. -/
theorem exec_of_hunting {i : Instr} {m : Message} {s : State} (carried : i.message? = some m)
    (out : s.link.inRestart = false) (hunts : hunting s) :
    exec i s = .next (transmit (takeFrame m (hunted s))) := by
  rw [exec_of_frame s carried, frameArrival_of_hunting m s out hunts]

/-- R162: where all places are held a frame overflows. -/
theorem takeFrame_of_full (m : Message) {s : State} (serves : s.link.restartHanded = false)
    (full : 4 ≤ s.link.places.length) : takeFrame m s = overflowFrame m s := by
  have none_free : ¬ s.link.places.length < placeCount := Nat.not_lt.mpr full
  simp [takeFrame, serves, none_free]

/-- R162: what the end of a sending frees, in one record. -/
theorem freeSource_eq (source : SendSource) (l : Link) :
    freeSource source l =
      { l with
        sending := none
        overflow := if source = .overflow then none else l.overflow
        places := if source = .place then l.places.drop 1 else l.places } := by
  cases source <;> rfl

/-- Settles O8. -/
theorem placesOverflowAndAreFreed : Obligations.PlacesOverflowAndAreFreed := by
  refine ⟨?overflow, ?freed⟩
  case overflow =>
    intro i m s carried out serves full hunts
    have taken : takeFrame m (hunted s) = overflowFrame m (hunted s) := takeFrame_of_full m serves full
    rw [exec_of_hunting carried out hunts, taken]
    refine ⟨fun empty => ?_, fun held => ?_⟩
    · simp only [overflowFrame, hunted_link, empty]
      rfl
    · obtain ⟨x, held⟩ := Option.isSome_iff_exists.mp held
      simp only [overflowFrame, hunted_link, held]
      rfl
  case freed =>
    intro x s sent other
    refine congrArg Host.Outcome.next ?_
    simp only [endSending, sent, other]
    exact congrArg (fun f => transmit (modLink f s)) (funext (freeSource_eq x.source))

end Sys2Proof.Machine

/-! The checks of kind and length, the codes (R163, R170), the transmitter's choice and the notices (R164, R165),
RESTART and NOTICE-MASK (R166, R169). -/

namespace Sys2Proof.Machine

open Sys2Proof Sys2Proof.Safety

/-! ### Numbers on the link (R170) -/

/-- Bytes read after others: the number that stands before is shifted by their places. -/
theorem foldl_beNat (bytes : List Byte) (n : Nat) :
    bytes.foldl (fun acc b => acc * 256 + b.toNat) n = n * 256 ^ bytes.length + beNat bytes := by
  induction bytes generalizing n with
  | nil => simp [beNat]
  | cons b bytes ih =>
    have first : beNat (b :: bytes) = b.toNat * 256 ^ bytes.length + beNat bytes := by
      simpa [beNat] using ih b.toNat
    rw [List.foldl_cons, ih, first, List.length_cons, Nat.pow_succ']
    ring

/-- The first byte is the most significant one. -/
theorem beNat_cons (b : Byte) (bytes : List Byte) :
    beNat (b :: bytes) = b.toNat * 256 ^ bytes.length + beNat bytes := by
  have first := foldl_beNat bytes b.toNat
  simpa [beNat] using first

/-- R170: what a number written in `w` bytes reads back as. -/
theorem beNat_bytesOf (w n : Nat) : beNat (bytesOf w n) = n % 256 ^ w := by
  induction w with
  | zero => simp [bytesOf, beNat, Nat.mod_one]
  | succ w ih =>
    rw [bytesOf, beNat_cons, length_bytesOf, ih, BitVec.toNat_ofNat, show 2 ^ 8 = 256 from rfl,
      Nat.mod_pow_succ, Nat.mul_comm, Nat.add_comm]

/-- R170: the byte at a position of a written number. -/
theorem bytesOf_getElem? (w n i : Nat) (h : i < w) :
    (bytesOf w n)[i]? = some (BitVec.ofNat 8 (n / 256 ^ (w - 1 - i))) := by
  induction w generalizing i with
  | zero => omega
  | succ w ih =>
    cases i with
    | zero => simp [bytesOf]
    | succ i =>
      rw [bytesOf, List.getElem?_cons_succ, ih i (by omega)]
      congr 4
      omega

/-- R170: a number that fits its field reads back from it. -/
theorem field_bytesOf (before after : List Byte) (w n : Nat) (h : n < 256 ^ w) :
    field (before ++ bytesOf w n ++ after) before.length w = n := by
  have here : ((before ++ bytesOf w n ++ after).drop before.length).take w = bytesOf w n := by
    simp [List.append_assoc, List.take_left']
  rw [field, here, beNat_bytesOf, Nat.mod_eq_of_lt h]

/-! ### The checks of kind and length (R163) -/

/-- PORT-ADJUST's lengths, as they are listed. -/
theorem adjustLength_eq (n : Nat) :
    adjustLength n = ((List.range 14).map fun k => 4 + 3 * k).contains n := by
  rw [Bool.eq_iff_iff]
  simp only [adjustLength, Bool.and_eq_true, decide_eq_true_eq, beq_iff_eq, List.contains_iff_mem,
    List.mem_map, List.mem_range]
  constructor
  · rintro ⟨⟨low, high⟩, third⟩
    exact ⟨(n - 4) / 3, by omega, by omega⟩
  · rintro ⟨k, small, rfl⟩
    omega

/-- Which kinds are request kinds does not depend on the length. -/
theorem lengthAllowed?_isNone (kind : Byte) (n : Nat) :
    (lengthAllowed? kind n).isNone = (lengthAllowed? kind 0).isNone := by
  simp only [lengthAllowed?]
  split <;> rfl

/-- The kinds that the table does not list are no request kinds. -/
theorem lengthAllowed?_of_absent (kind : Byte) :
    requestLengths.lookup kind = none → (lengthAllowed? kind 0).isNone = true := by
  revert kind
  decide

/-- A list of one length contains that length alone. -/
theorem contains_one (a n : Nat) : [a].contains n = (n == a) := by
  simp [List.contains_eq_mem, beq_eq_decide]

/-- A list of two lengths contains those two. -/
theorem contains_two (a b n : Nat) : [a, b].contains n = (n == a || n == b) := by
  simp [List.contains_eq_mem, beq_eq_decide]

/-- R163, Table 10-4: the lengths that a kind allows are those of the table. -/
theorem lengthAllowed?_eq (kind : Byte) (n : Nat) :
    lengthAllowed? kind n = (requestLengths.lookup kind).map fun lengths => lengths.contains n := by
  cases found : requestLengths.lookup kind with
  | none =>
    have refused := lengthAllowed?_of_absent kind found
    rw [← lengthAllowed?_isNone kind n] at refused
    exact Option.isNone_iff_eq_none.mp refused
  | some lengths =>
    obtain ⟨before, after, split, -⟩ := List.lookup_eq_some_iff.mp found
    have listed : (kind, lengths) ∈ requestLengths := by simp [split]
    simp only [requestLengths, List.cons_append, List.nil_append, List.mem_cons, Prod.mk.injEq, List.not_mem_nil,
      or_false] at listed
    rcases listed with h | h | h | h | h | h | h | h | h | h | h | h | h | h | h | h | h | h | h | h | h | h |
      h | h | h | h | h | h | h | h | h | h | h | h | h <;> obtain ⟨rfl, rfl⟩ := h
    all_goals simp only [Option.map_some, contains_one, contains_two, adjustLength_eq, lengthAllowed?,
      BitVec.reduceToNat]

/-- R163: a kind that the table does not list is no request kind. -/
theorem lengthAllowed?_of_not_mem {kind : Byte} (n : Nat) (h : kind ∉ requestKinds) :
    lengthAllowed? kind n = none := by
  have absent : requestLengths.lookup kind = none := by
    rw [List.lookup_eq_none_iff]
    intro entry listed
    simp only [bne_iff_ne]
    rintro rfl
    exact h (List.mem_map_of_mem listed)
  rw [lengthAllowed?_eq, absent]
  rfl

/-- Settles O9: the table of lengths, the numbers on the link, the codes by evaluation, and the two refusals that
`serve` makes before any owner. -/
theorem kindAndLengthAreCheckedFirst : Obligations.KindAndLengthAreCheckedFirst := by
  refine ⟨lengthAllowed?_eq, ?numbers, ⟨rfl, rfl, rfl, fun _ => rfl, rfl, rfl, rfl, rfl, fun _ => rfl, rfl, rfl,
    rfl, rfl, rfl, rfl⟩, ?badKind, ?badLength⟩
  case numbers =>
    intro w n
    exact ⟨length_bytesOf w n, fun i h => bytesOf_getElem? w n i h,
      fun before after h => field_bytesOf before after w n h⟩
  case badKind =>
    intro kind tag body s accepts unlisted
    have refuses : serve kind body (hunted s) = refuse .badKind (hunted s) := by
      simp only [serve, lengthAllowed?_of_not_mem body.length unlisted]
    exact request_of_refusal kind tag body s .badKind accepts refuses
  case badLength =>
    intro i m s carried accepts other
    have refuses : serve m.kind m.body (hunted s) = refuse .badLength (hunted s) := by
      simp only [serve, other]
    rw [exec_of_message i m s carried]
    exact request_of_refusal m.kind m.tag m.body s .badLength accepts refuses

/-! ### The transmitter (R164, R165) -/

/-- R164, R167: a part in restart, or whose transmitter is busy, chooses nothing. -/
theorem transmit_of_busy {s : State} (h : s.link.inRestart = true ∨ s.link.sending.isSome = true) :
    transmit s = s := by
  have busy : (s.link.inRestart || s.link.sending.isSome) = true := by simpa using h
  simp only [transmit, busy, if_true]

section

variable {s : State} (out : s.link.inRestart = false) (free : s.link.sending = none)

include out free

/-- R164: the overflow slot's reply comes first. -/
theorem transmit_of_overflow {m : Message} (h : s.link.overflow = some m) :
    transmit s = startSending .overflow m s := by
  simp [transmit, out, free, h]

/-- R164: the earliest place's reply comes next. -/
theorem transmit_of_reply {m : Message} (h : s.link.overflow = none) (reply : headReply s.link = some m) :
    transmit s = startSending .place m s := by
  simp [transmit, out, free, h, reply]

/-- R164: then the highest-ranked notice that may be sent. -/
theorem transmit_of_notice {k : NoticeKind} {body : List Byte} (h : s.link.overflow = none)
    (noReply : headReply s.link = none) (next : nextNotice s = some (k, body)) :
    transmit s = sendNotice k body s := by
  simp [transmit, out, free, h, noReply, next]

/-- R164: where there is nothing to send nothing is sent. -/
theorem transmit_of_nothing (h : s.link.overflow = none) (noReply : headReply s.link = none)
    (next : nextNotice s = none) : transmit s = s := by
  simp [transmit, out, free, h, noReply, next]

end

/-- R164: the highest-ranked notice is the one that may be sent and before which none may. -/
theorem nextNotice_of_first {s : State} {k : NoticeKind} {body : List Byte}
    (unmasked : s.link.mask.getLsbD k.index = true) (pending : noticeBody s k = some body)
    (first : ∀ j : NoticeKind, j.index < k.index →
      s.link.mask.getLsbD j.index = false ∨ noticeBody s j = none) :
    nextNotice s = some (k, body) := by
  have skipped (j : NoticeKind) (before : j.index < k.index) :
      (if s.link.mask.getLsbD j.index then (noticeBody s j).map fun body => (j, body) else none) = none := by
    obtain masked | absent := first j before
    · simp [masked]
    · simp [absent]
  have taken : (if s.link.mask.getLsbD k.index then (noticeBody s k).map fun body => (k, body) else none) =
      some (k, body) := by simp [unmasked, pending]
  obtain ⟨before, after, split, ranks⟩ : ∃ before after, NoticeKind.all = before ++ k :: after ∧
      ∀ j ∈ before, j.index < k.index := by
    cases k
    · exact ⟨[], _, rfl, by simp⟩
    · exact ⟨[.ready], _, rfl, by decide⟩
    · exact ⟨[.ready, .fault], _, rfl, by decide⟩
    · exact ⟨[.ready, .fault, .portChange], _, rfl, by decide⟩
    · exact ⟨[.ready, .fault, .portChange, .billOverdue], _, rfl, by decide⟩
    · exact ⟨[.ready, .fault, .portChange, .billOverdue, .epochClosed], _, rfl, by decide⟩
    · exact ⟨[.ready, .fault, .portChange, .billOverdue, .epochClosed, .measureDone], _, rfl, by decide⟩
    · exact ⟨[.ready, .fault, .portChange, .billOverdue, .epochClosed, .measureDone, .relief], _, rfl, by decide⟩
    · exact ⟨[.ready, .fault, .portChange, .billOverdue, .epochClosed, .measureDone, .relief, .stationMove], _, rfl,
        by decide⟩
    · exact ⟨[.ready, .fault, .portChange, .billOverdue, .epochClosed, .measureDone, .relief, .stationMove,
        .learnFull], _, rfl, by decide⟩
  have none_before := List.findSome?_eq_none_iff.mpr fun j listed => skipped j (ranks j listed)
  rw [nextNotice, split, List.findSome?_append, none_before, Option.none_or, List.findSome?_cons, taken]

/-- R164: where every notice is masked or absent none is sent. -/
theorem nextNotice_of_none {s : State}
    (none_due : ∀ k : NoticeKind, s.link.mask.getLsbD k.index = false ∨ noticeBody s k = none) :
    nextNotice s = none := by
  refine List.findSome?_eq_none_iff.mpr fun j _ => ?_
  obtain masked | absent := none_due j
  · simp [masked]
  · simp [absent]

/-- A count of at most 255 parts, before them. -/
theorem counted_eq (parts : List (List Byte)) :
    counted parts = BitVec.ofNat 8 parts.length :: parts.flatten := by
  simp [counted, bytesOf]

/-- A yes/no field in one byte. -/
theorem ofNat_yesNo (b : Bool) : BitVec.ofNat 8 (yesNo b) = if b = true then 1#8 else 0#8 := by
  cases b <;> rfl

/-- The health code: the rank of the highest-ranked current or latched condition. -/
theorem healthCode_eq (u : PortUnit) (paced : Bool) :
    healthCode u paced =
      (((List.range 8).find? fun i => (currentConditions u paced ||| u.latched).getLsbD i).map (· + 1)).getD 9 := by
  generalize held : currentConditions u paced ||| u.latched = conditions
  have ranks : List.range 8 = (List.finRange 8).map Fin.val := by decide
  rw [healthCode, held, highestRank, ranks, List.find?_map, Option.map_map]
  simp only [Function.comp_def]
  cases (List.finRange 8).find? fun i => conditions.getLsbD i.val <;> rfl

/-- The flags byte of a billing record. -/
theorem recordFlags_byte (f : RecordFlags) :
    bytesOf 1 f.code =
      [(if f.locked = true then (1 : Byte) else 0) + 2 * (if f.late = true then 1 else 0) +
        4 * (if f.final = true then 1 else 0) + 8 * (if f.removed = true then 1 else 0)] := by
  obtain ⟨locked, late, final, removed⟩ := f
  revert locked late final removed
  decide

/-- One byte of a number. -/
theorem bytesOf_one (n : Nat) : bytesOf 1 n = [BitVec.ofNat 8 n] := by
  simp [bytesOf]

/-- The building of a PORT-CHANGE notice empties the latched sets of the ports it names. -/
theorem takeNotice_portChange {s : State} {x : PortSet} (h : s.link.notices.portChange = some x) :
    takeNotice .portChange s = emptyLatched x (modNotices (fun n => n.without .portChange) s) := by
  simp only [takeNotice, h]

end Sys2Proof.Machine

/-! The statements about the transmitter, the notices (R164, R165), RESTART and NOTICE-MASK (R166, R169). -/

namespace Sys2Proof.Machine

open Sys2Proof Sys2Proof.Safety

/-- The restart record's four bytes. -/
theorem restartRecord_bytes_eq (r : RestartRecord) :
    r.bytes =
      ([match r.cause with | .power => 1 | .pin => 2 | .command => 3,
          match r.epochOpen with | .no => 0 | .yes => 1 | .unknown => 2] : List Byte) ++
        bytesOf 2 r.recordsLost := by
  obtain ⟨cause, epochOpen, lost⟩ := r
  cases cause <;> cases epochOpen <;> simp [RestartRecord.bytes, bytesOf_one, RestartCause.code, EpochOpen.code]

/-- A port of a PORT-CHANGE notice. -/
theorem portChangeBytes_eq (s : State) (p : Port) :
    portChangeBytes s p =
      [BitVec.ofNat 8 p.val, BitVec.ofNat 8 s.ports[p].link.code,
        BitVec.ofNat 8 (healthCode s.ports[p] s.relief.paced[p]), s.ports[p].latched] := by
  simp [portChangeBytes, bytesOf]

/-- A result of a MEASURE-DONE notice. -/
theorem measureResult_bytes_eq (r : MeasureResult) :
    r.bytes =
      match r.outcome with
      | .done margin changed => [BitVec.ofNat 8 r.port.val, 0, margin, if changed = true then 1 else 0]
      | .withdrawn => [BitVec.ofNat 8 r.port.val, 1, 0, 1] := by
  obtain ⟨port, outcome⟩ := r
  cases outcome <;> simp [MeasureResult.bytes, bytesOf_one, ofNat_yesNo]

/-- A queue of a RELIEF notice. -/
theorem reliefBytes_eq (s : State) (q : Port) :
    reliefBytes s q =
      ([BitVec.ofNat 8 q.val, if s.relief.congested[q] = true then 1 else 0] : List Byte) ++
        bytesOf 2 (occupancy s.buffer s.buffer.held[q]) := by
  simp [reliefBytes, bytesOf_one, ofNat_yesNo]

/-- The causes byte of a LEARN-FULL notice. -/
theorem causes_byte (limit bucket : Bool) :
    bytesOf 1 (yesNo limit + 2 * yesNo bucket) =
      [(if limit = true then (1 : Byte) else 0) + 2 * if bucket = true then 1 else 0] := by
  revert limit bucket
  decide

/-- Settles O10: the transmitter's four choices, the notices' bodies part by part, and the clearing of each flag. -/
theorem transmitterChoosesByRank : Obligations.TransmitterChoosesByRank := by
  refine ⟨fun s => ⟨transmit_of_busy, fun out free => ⟨?overflow, ?place, fun empty none_held => ⟨?notice, ?idle⟩⟩⟩,
    ?bodies, fun s => ⟨rfl, rfl, rfl, rfl, rfl, rfl, rfl, rfl, rfl, fun x named => takeNotice_portChange named⟩⟩
  case overflow => exact fun m held => transmit_of_overflow out free held
  case place =>
    intro place rest body empty held reply
    exact transmit_of_reply out free empty (by simp [headReply, held, reply, replyKind])
  case notice =>
    intro k body unmasked pending first
    have chosen := transmit_of_notice out free empty (by simp [headReply, none_held])
      (nextNotice_of_first unmasked pending first)
    have count : (takeNotice k s).link.noticeCount = s.link.noticeCount := by simp
    rw [chosen, sendNotice, ← count]
    rfl
  case idle =>
    intro none_due
    exact transmit_of_nothing out free empty (by simp [headReply, none_held]) (nextNotice_of_none none_due)
  case bodies =>
    intro s
    have results : MeasureResult.bytes = _ := funext measureResult_bytes_eq
    have queues : reliefBytes s = _ := funext (reliefBytes_eq s)
    have ports : portChangeBytes s = _ := funext (portChangeBytes_eq s)
    refine ⟨?_, rfl, ?_, ?_, ?_, ?_, ?_, rfl, ?_, rfl⟩
    · exact congrArg (Option.map · _) (funext restartRecord_bytes_eq)
    · simp only [noticeBody, counted_eq, ports, healthCode_eq, portsOf]
    · simp only [noticeBody, bytesOf_one]
    · simp only [noticeBody, recordFlags_byte, List.append_assoc]
      simp only [bytesOf_one, List.cons_append, List.nil_append]
    · simp only [noticeBody, counted_eq, results] <;> rfl
    · simp only [noticeBody, counted_eq, queues, portsOf]
    · simp only [noticeBody, counted_eq, LearnFull.parts, causes_byte]
      simp only [bytesOf_one, List.cons_append, List.nil_append]
      rfl

/-! ### RESTART and NOTICE-MASK -/

/-- A request of an allowed length, sent by its own command, is answered by its owner. -/
theorem exec_of_accepting {i : Instr} {m : Message} {s : State} (carried : i.message? = some m)
    (accepts : accepting s) (allowed : lengthAllowed? m.kind m.body.length = some true) :
    exec i s =
      performed m.kind m.tag (handRequest m.kind m.body (hunted s)).2.body
        (handRequest m.kind m.body (hunted s)).1 :=
  (exec_of_message i m s carried).trans (request_of_length m.kind m.tag m.body s accepts allowed)

/-- R169: a frame that comes after RESTART has been handed takes a free place without a reply. -/
theorem takeFrame_of_restartHanded (m : Message) {s : State} (handed : s.link.restartHanded = true) :
    takeFrame m s =
      modLink
        (fun l =>
          { l with
            places :=
              if l.places.length < 4 then l.places ++ [{ kind := m.kind, tag := m.tag, reply := none }]
              else l.places }) s := by
  by_cases free : s.link.places.length < 4
  · simp only [takeFrame, handed, if_true, placeCount, free, holdPlace, modLink]
  · have discarded : takeFrame m s = s := by simp [takeFrame, handed, placeCount, free]
    simp only [discarded, modLink, free, if_false]

/-- Settles O11. -/
theorem restartAndNoticeMaskAnswer : Obligations.RestartAndNoticeMaskAnswer := by
  refine ⟨⟨?restart, ?after⟩, ?mask⟩
  case restart =>
    intro tag s accepts
    exact exec_of_accepting (i := .restart tag []) (m := ⟨0x3E, tag, []⟩) rfl accepts rfl
  case after =>
    intro i m s carried out handed hunts
    rw [exec_of_hunting carried out hunts, takeFrame_of_restartHanded (s := hunted s) m handed]
  case mask =>
    intro tag body s accepts two
    have served := exec_of_accepting (i := .noticeMask tag body) (m := ⟨0x3C, tag, body⟩) rfl accepts
      (by simp [lengthAllowed?, two])
    have answer : handRequest 0x3C body (hunted s) = noticeMask body (hunted s) := rfl
    rw [served, answer]
    by_cases large : 1024 ≤ field body 0 2
    · simp only [noticeMask, large, if_true]
      rfl
    · simp only [noticeMask, large, if_false]
      rfl

end Sys2Proof.Machine

/-! What a step is made of. `Kept P` lists the operations that events are composed of, each with what is known where
it takes place; `Kept.step` packages the case analysis of `exec` once, so that an invariant is proved operation by
operation. -/

namespace Sys2Proof.Machine

open Sys2Proof Sys2Proof.Safety

/-- R6: TENANT-QUERY changes nothing. -/
@[simp] theorem tenantQuery_fst (body : List Byte) (s : State) : (tenantQuery body s).1 = s := by
  simp only [tenantQuery]
  split
  · rfl
  · split <;> rfl

/-- R36: STATION-FIND changes nothing. -/
@[simp] theorem stationFind_fst (body : List Byte) (s : State) : (stationFind body s).1 = s := by
  simp only [stationFind]
  split <;> rfl

/-- An update of a port that writes neither its record nor its link state, and raises neither its error count nor
its hold-down step. -/
structure Tunes (u v : PortUnit) : Prop where
  config : v.config = u.config
  link : v.link = u.link
  errorCount : v.errorCount ≤ u.errorCount
  holddownStep : v.holddownStep ≤ u.holddownStep

/-- A property of states that every operation keeps: of the link, of the owners, and of the line events. Of a restart
this is asked where `restartable` holds; what only a restart undoes is `Kept P False`. -/
structure Kept (P : State → Prop) (restartable : Prop := True) : Prop where
  waiting (q : List Instr) {s : State} : P s → P { s with pending := q }
  restarted (allowed : restartable) (record : RestartRecord) (high : Bool) (good : Vector Bool 40) (out : List LineOut)
    (free : Nat) (q : List Instr) : P (State.restarted record high good out free q)
  left {s : State} :
    P s → P { s with link := { Link.initial s.link.restartRecord true with inRestart := false } }
  -- the link
  hunts {s : State} : P s → P (hunt s)
  linkError {s : State} : P s → P (countLinkError s)
  remains (rx : List Byte) {s : State} :
    P s → P (modLink (fun l => { l with rx := rx, gap := if rx.isEmpty then none else some 0 }) s)
  holds (m : Message) (reply : Option (List Byte)) {s : State} :
    s.link.places.length < 4 → P s → P (holdPlace m reply s)
  overflows (m : Message) {s : State} : P s → P (modLink (fun l => { l with overflow := some m }) s)
  frees (x : SendSource) {s : State} : P s → P (modLink (freeSource x) s)
  sends (x : SendSource) (m : Message) {s : State} : P s → P (startSending x m s)
  notifies (k : NoticeKind) (body : List Byte) {s : State} : P s → P (sendNotice k body s)
  settles (before : State) {s : State} : P s → P (settle before s)
  -- the owners of requests
  tenantDefine (body : List Byte) {s : State} : P s → P (tenantDefine body s).1
  tenantRemove (body : List Byte) {s : State} : P s → P (tenantRemove body s).1
  tenantBind (body : List Byte) {s : State} : P s → P (tenantBind body s).1
  segmentDefine (body : List Byte) {s : State} : P s → P (segmentDefine body s).1
  segmentRemove (body : List Byte) {s : State} : P s → P (segmentRemove body s).1
  stationAdd (body : List Byte) {s : State} : P s → P (stationAdd body s).1
  stationRemove (body : List Byte) {s : State} : P s → P (stationRemove body s).1
  stationFlush (body : List Byte) {s : State} : P s → P (stationFlush body s).1
  stationStatus (body : List Byte) {s : State} : P s → P (stationStatus body s).1
  trunkGroup (body : List Byte) {s : State} : P s → P (trunkGroup body s).1
  reliefSet (body : List Byte) {s : State} : P s → P (reliefSet body s).1
  lineMeasure (body : List Byte) {s : State} : P s → P (lineMeasure body s).1
  lineCalibrate (body : List Byte) {s : State} : P s → P (lineCalibrate body s).1
  billStart (body : List Byte) {s : State} : P s → P (billStart body s).1
  billStop (body : List Byte) {s : State} : P s → P (billStop body s).1
  billHold (body : List Byte) {s : State} : P s → P (billHold body s).1
  billResume (body : List Byte) {s : State} : P s → P (billResume body s).1
  billClose (body : List Byte) {s : State} : P s → P (billClose body s).1
  billSet (body : List Byte) {s : State} : P s → P (billSet body s).1
  billDrain (body : List Byte) {s : State} : P s → P (billDrain body s).1
  billLock (body : List Byte) {s : State} : P s → P (billLock body s).1
  billQuery (body : List Byte) {s : State} : P s → P (billQuery body s).1
  noticeMask (body : List Byte) {s : State} : P s → P (noticeMask body s).1
  restart (body : List Byte) {s : State} : P s → P (restart body s).1
  -- the record and the link state of a port
  writes (p : Port) (pairs : List (ConfigField × Nat)) {s : State} :
    pairsInRange p pairs = true →
      (s.ports[p].config.writeAll pairs).enabled = s.ports[p].config.enabled ∨
        (s.ports[p].config.writeAll pairs).enabled = (s.ports[p].link != .disabled) →
      P s → P (modPort p (fun u => { u with config := u.config.writeAll pairs }) s)
  enables (p : Port) (pairs : List (ConfigField × Nat)) {s : State} :
    pairsInRange p pairs = true → s.ports[p].link = .disabled →
      (s.ports[p].config.writeAll pairs).enabled = true →
      P s → P (enablePort p (s.ports[p].config.writeAll pairs) s)
  disables (p : Port) (pairs : List (ConfigField × Nat)) {s : State} :
    pairsInRange p pairs = true → s.ports[p].link ≠ .disabled →
      (s.ports[p].config.writeAll pairs).enabled = false →
      P s → P (disablePort p (modPort p (fun u => { u with config := u.config.writeAll pairs }) s))
  entersDown (p : Port) {s : State} :
    s.ports[p].link ≠ .up → s.ports[p].link ≠ .disabled → P s → P (enterDown p s)
  entersUp (p : Port) {s : State} : s.ports[p].link = .probing → P s → P (enterUp p s)
  entersProbing (p : Port) {s : State} : s.ports[p].link = .down → P s → P (enterProbing p s)
  fences (p : Port) (cause : FaultCause) {s : State} :
    s.ports[p].link = .up ∨ s.ports[p].link = .probing → P s → P (fence p cause s)
  -- the smaller operations of line and timer events
  tunes (p : Port) (f : PortUnit → PortUnit) {s : State} :
    Tunes s.ports[p] (f s.ports[p]) → P s → P (modPort p f s)
  errorCounted (p : Port) {s : State} :
    P s → P (modPort p (fun u => { u with errorCount := min 65535 (u.errorCount + 1) }) s)
  emits (o : LineOut) {s : State} : P s → P (emit o s)
  quiets (p : Port) {s : State} : P s → P (raiseQuiet p s)
  generates (p : Port) (f : Generator → Generator) {s : State} : P s → P (modGenerator p f s)
  schedules (p : Port) {s : State} : P s → P (schedule p s)
  completes (cls : TrafficClass) (p : Port) {s : State} :
    sendingClass s p = some cls → P s → P (completeHead cls p s)
  decides (p : Port) (f : DataFrame) {s : State} :
    isBadFrame f = false → P s → P (decideFrame p f s)
  withdraws (p : Port) {s : State} : P s → P (withdraw p s)
  spoils (p : Port) {s : State} : P s → P (spoilMeasurement p s)
  measured (r : MeasureResult) {s : State} : P s → P (raiseMeasureDone r s)
  nextMeasured {s : State} :
    P s → P (beginMeasurement { s with measurement := { s.measurement with inProgress := none } })
  sweeps {s : State} : P s → P (sweep s)
  ticks {s : State} : tickDue s = true → P s → P (epochTickEvent s)
  passes (n : Nat) {s : State} : P s → P (passTicks n s)

namespace Kept

variable {P : State → Prop} {restartable : Prop} (K : Kept P restartable)

include K

/-! ### The link -/

theorem transmit {s : State} (h : P s) : P (transmit s) := by
  simp only [Machine.transmit]
  repeat' split
  · exact h
  · exact K.sends _ _ h
  · exact K.sends _ _ h
  · exact K.notifies _ _ h
  · exact h

theorem conclude (before : State) {s : State} (h : P s) : P (conclude before s) :=
  K.transmit (K.settles before h)

theorem gapTimeout {s : State} (h : P s) : P (gapTimeout s) := by
  simp only [Machine.gapTimeout]
  split
  · exact K.linkError (K.hunts h)
  · exact h

/-! ### The ports' requests -/

/-- A PORT-SET writes the record of a DISABLED port, or enables it. -/
theorem setPort (p : Port) (pairs : List (ConfigField × Nat)) {s : State} (h : P s) :
    P (setPort p pairs s).1 := by
  simp only [Machine.setPort]
  split_ifs with range disabled enabled
  · exact h
  · exact h
  · split
    · exact h
    · exact K.settles s (K.enables p pairs (by simpa using range) (by simpa using disabled) enabled h)
  · refine K.writes p pairs (by simpa using range) ?_ h
    have dis : s.ports[p].link = .disabled := by simpa using disabled
    right
    rw [dis]
    simpa using enabled

end Kept

/-! ### The fields that pairs write -/

/-- A pair of another field leaves `enabled`. -/
theorem write_enabled_of_ne {f : ConfigField} (h : f ≠ .enabled) (c : PortConfig) (v : Nat) :
    (c.write f v).enabled = c.enabled := by
  cases f
  case enabled => exact absurd rfl h
  all_goals rfl

/-- Pairs of which none names `enabled` leave it. -/
theorem writeAll_enabled_of_absent (c : PortConfig) (pairs : List (ConfigField × Nat))
    (h : pairValue pairs .enabled = none) : (c.writeAll pairs).enabled = c.enabled := by
  induction pairs generalizing c with
  | nil => rfl
  | cons fv rest ih =>
    obtain ⟨f, v⟩ := fv
    simp only [pairValue, Option.map_eq_none_iff, List.find?_eq_none, List.mem_cons, forall_eq_or_imp,
      beq_iff_eq] at h
    obtain ⟨other, absent⟩ := h
    have rest_absent : pairValue rest .enabled = none := by
      simpa only [pairValue, Option.map_eq_none_iff, List.find?_eq_none, beq_iff_eq] using absent
    exact (ih (c.write f v) rest_absent).trans (write_enabled_of_ne other c v)

/-- Pairs that name each field once give `enabled` the value they name. -/
theorem writeAll_enabled_of_value (c : PortConfig) (pairs : List (ConfigField × Nat)) (v : Nat)
    (once : (pairs.map Prod.fst).Nodup) (h : pairValue pairs .enabled = some v) :
    (c.writeAll pairs).enabled = (v == 1) := by
  induction pairs generalizing c with
  | nil => simp [pairValue] at h
  | cons fv rest ih =>
    obtain ⟨f, w⟩ := fv
    rw [List.map_cons, List.nodup_cons] at once
    obtain ⟨fresh, once⟩ := once
    by_cases named : f = .enabled
    · subst named
      have value : w = v := by simpa [pairValue] using h
      have absent : pairValue rest .enabled = none := by
        simp only [pairValue, Option.map_eq_none_iff, List.find?_eq_none, beq_iff_eq]
        intro x listed same
        exact fresh (List.mem_map.mpr ⟨x, listed, same⟩)
      exact (writeAll_enabled_of_absent (c.write .enabled w) rest absent).trans (by rw [← value]; rfl)
    · have named_later : pairValue rest .enabled = some v := by simpa [pairValue, named] using h
      exact ih (c.write f w) once named_later

/-- A value that pairs in range name is in its range. -/
theorem inRange_of_pairValue {p : Port} {pairs : List (ConfigField × Nat)} {f : ConfigField} {v : Nat}
    (range : pairsInRange p pairs = true) (h : pairValue pairs f = some v) : f.inRange v = true := by
  simp only [pairValue, Option.map_eq_some_iff] at h
  obtain ⟨⟨g, w⟩, found, rfl⟩ := h
  have field : g = f := by simpa using List.find?_some found
  have fits := List.all_eq_true.mp range _ (List.mem_of_find?_eq_some found)
  rw [← field]
  simp only [Bool.and_eq_true] at fits
  exact fits.2

end Sys2Proof.Machine

/-! `Kept P` for every step: the requests, the bytes of the link, and the events, each from the operations it is
composed of. -/

namespace Sys2Proof.Machine

open Sys2Proof Sys2Proof.Safety

namespace Kept

variable {P : State → Prop} {restartable : Prop} (K : Kept P restartable)

include K

/-! ### The ports' requests -/

/-- A restart of the silence timer tunes the port. -/
theorem restartSilence (pairs : List (ConfigField × Nat)) (p : Port) {s : State} (h : P s) :
    P (restartSilence pairs p s) := by
  simp only [Machine.restartSilence]
  split
  · exact K.tunes p _ ⟨rfl, rfl, le_rfl, le_rfl⟩ h
  · exact h

/-- A PORT-ADJUST that passes enables, disables, or writes the record. -/
theorem adjustApply (p : Port) (pairs : List (ConfigField × Nat)) {s : State}
    (range : pairsInRange p pairs = true) (once : (pairs.map Prod.fst).Nodup) (h : P s) :
    P (adjustApply p pairs s) := by
  have value (v : Nat) := writeAll_enabled_of_value s.ports[p].config pairs v once
  simp only [Machine.adjustApply]
  split
  next named dis => exact K.settles s (K.enables p pairs range dis (value 1 named) h)
  next named dis => exact K.writes p pairs range (Or.inr (by rw [value 0 named, dis]; rfl)) h
  next named able => exact K.settles s (K.disables p pairs range able (value 0 named) h)
  next disables enables _ =>
    refine K.restartSilence pairs p (K.writes p pairs range ?_ h)
    cases named : pairValue pairs .enabled with
    | none => exact Or.inl (writeAll_enabled_of_absent _ pairs named)
    | some v =>
      have small : v ≤ 1 := of_decide_eq_true (inRange_of_pairValue range named)
      have one : v = 1 := by
        have : v ≠ 0 := fun zero => disables (named.trans (congrArg some zero))
        omega
      have able : s.ports[p].link ≠ .disabled := fun dis => enables (named.trans (congrArg some one)) dis
      right
      rw [value v named, one]
      simpa using able

theorem adjustPort (p : Port) (pairs : List (ConfigField × Nat)) {s : State} (h : P s) :
    P (adjustPort p pairs s).1 := by
  simp only [Machine.adjustPort]
  split
  · exact h
  next good =>
    have fits : pairsInRange p pairs = true ∧ (pairs.map Prod.fst).Nodup := by simpa [adjustBad] using good
    split
    · exact h
    · split
      · exact h
      · exact K.adjustApply p pairs fits.1 fits.2 h

theorem portSet (body : List Byte) {s : State} (h : P s) : P (portSet body s).1 := by
  simp only [Machine.portSet]
  split
  · exact h
  · exact K.setPort _ _ h

theorem portAdjust (body : List Byte) {s : State} (h : P s) : P (portAdjust body s).1 := by
  simp only [Machine.portAdjust]
  split
  · exact K.adjustPort _ _ h
  · exact h

theorem portQuery (body : List Byte) {s : State} (h : P s) : P (portQuery body s).1 := by
  simp only [Machine.portQuery]
  split
  · exact h
  next p _ => exact K.tunes p (fun u => { u with latched := 0 }) ⟨rfl, rfl, le_rfl, le_rfl⟩ h

theorem portFaults (body : List Byte) {s : State} (h : P s) : P (portFaults body s).1 := by
  simp only [Machine.portFaults]
  split
  · exact h
  next p _ =>
    exact K.tunes p (fun u => { u with capture := u.capture.map fun c => { c with unread := false } })
      ⟨rfl, rfl, le_rfl, le_rfl⟩ h

/-- An error window starts with error_count 0. -/
theorem startErrorWindow (p : Port) {s : State} (h : P s) : P (startErrorWindow p s) :=
  K.tunes p _ ⟨rfl, rfl, Nat.zero_le _, le_rfl⟩ h

/-- A release takes a BARRED port to DOWN. -/
theorem portRelease (body : List Byte) {s : State} (h : P s) : P (portRelease body s).1 := by
  simp only [Machine.portRelease]
  split
  · exact h
  next p _ =>
    split
    next barred =>
      have cleared := K.startErrorWindow p (K.tunes p (fun u => { u with flapCount := 0, holddownStep := 0 })
        ⟨rfl, rfl, le_rfl, Nat.zero_le _⟩ h)
      refine K.settles s (K.entersDown p ?_ ?_ cleared) <;>
        simp only [Machine.startErrorWindow, modPort_self, barred, ne_eq, reduceCtorEq, not_false_eq_true]
    · exact h

/-! ### The owners -/

/-- Every owner keeps the property. -/
theorem handRequest (kind : Byte) (body : List Byte) {s : State} (h : P s) : P (handRequest kind body s).1 := by
  simp only [Machine.handRequest]
  split
  · exact K.tenantDefine body h
  · exact K.tenantRemove body h
  · exact (tenantQuery_fst body s).symm ▸ h
  · exact K.tenantBind body h
  · exact K.segmentDefine body h
  · exact K.segmentRemove body h
  · exact K.stationAdd body h
  · exact K.stationRemove body h
  · exact (stationFind_fst body s).symm ▸ h
  · exact K.stationFlush body h
  · exact K.stationStatus body h
  · exact K.trunkGroup body h
  · exact h
  · exact h
  · exact K.reliefSet body h
  · exact h
  · exact K.portSet body h
  · exact K.portAdjust body h
  · exact K.portQuery body h
  · exact K.portRelease body h
  · exact K.portFaults body h
  · exact K.lineMeasure body h
  · exact K.lineCalibrate body h
  · exact K.billStart body h
  · exact K.billStop body h
  · exact K.billHold body h
  · exact K.billResume body h
  · exact K.billClose body h
  · exact K.billSet body h
  · exact K.billDrain body h
  · exact K.billLock body h
  · exact K.billQuery body h
  · exact K.noticeMask body h
  · exact h
  · exact K.restart body h
  · exact h

theorem serve (kind : Byte) (body : List Byte) {s : State} (h : P s) : P (serve kind body s).1 := by
  simp only [Machine.serve]
  split
  · exact h
  · exact h
  · exact K.handRequest kind body h

theorem overflowFrame (m : Message) {s : State} (h : P s) : P (overflowFrame m s) := by
  simp only [Machine.overflowFrame]
  split
  · exact K.linkError h
  · exact K.overflows _ h

theorem takeFrame (m : Message) {s : State} (h : P s) : P (takeFrame m s) := by
  simp only [Machine.takeFrame]
  split_ifs with handed free free
  · exact K.holds m none free h
  · exact h
  · refine K.holds m _ ?_ (K.serve m.kind m.body h)
    simpa [placeCount] using free
  · exact K.overflowFrame m h

theorem takeLinkEvent (e : LinkEvent) {s : State} (h : P s) : P (takeLinkEvent s e) := by
  cases e with
  | frame m => exact K.transmit (K.takeFrame m h)
  | framingError => exact K.linkError h

theorem foldl_takeLinkEvent (events : List LinkEvent) {s : State} (h : P s) :
    P (events.foldl Machine.takeLinkEvent s) := by
  induction events generalizing s with
  | nil => exact h
  | cons e rest ih => exact ih (K.takeLinkEvent e h)

theorem assemble (bytes : List Byte) {s : State} (h : P s) : P (assemble bytes s) :=
  K.remains _ (K.foldl_takeLinkEvent _ (K.hunts h))

theorem receiveBytes (bytes : List Byte) {s : State} (h : P s) : P (receiveBytes bytes s) := by
  simp only [Machine.receiveBytes]
  split_ifs
  · exact h
  · exact K.gapTimeout h
  · exact K.assemble bytes (K.gapTimeout h)

theorem frameArrival (m : Message) {s : State} (h : P s) : P (frameArrival m s) := by
  simp only [Machine.frameArrival]
  split_ifs
  · exact h
  · exact K.transmit (K.takeFrame m (K.hunts (K.gapTimeout h)))
  · exact K.assemble _ (K.gapTimeout h)

theorem endSending {s : State} (allowed : s.link.sending.any isRestartReply = true → restartable) (h : P s) :
    P (endSending s) := by
  cases sending : s.link.sending with
  | none =>
    simp only [Machine.endSending, sending]
    exact h
  | some sent =>
    simp only [sending, Option.any_some] at allowed
    simp only [Machine.endSending, sending]
    split_ifs with isReply
    · exact K.restarted (allowed isReply) ..
    · exact K.transmit (K.frees _ h)

theorem leavePart {s : State} (h : P s) : P (leavePart s) := K.transmit (K.left h)

/-! ### The events of lines and timers -/

theorem arrive (p : Port) {s : State} (h : P s) : P (arrive p s) := by
  refine K.tunes p _ ?_ h
  split_ifs <;> exact ⟨rfl, rfl, le_rfl, le_rfl⟩

/-- An error event counts, and in UP may fence. -/
theorem errorEvent (p : Port) {s : State} (h : P s) : P (errorEvent p s) := by
  have counted := K.errorCounted p h
  simp only [Machine.errorEvent]
  split_ifs with due
  · exact K.fences p .errorBurst (Or.inl due.1) counted
  · exact counted

theorem dataArrival (p : Port) (f : DataFrame) {s : State} (h : P s) : P (dataArrival p f s) := by
  have arrived := K.arrive p h
  simp only [Machine.dataArrival]
  split_ifs with lost bad due
  · exact arrived
  · exact K.errorEvent p arrived
  · exact K.decides p f (by simpa using bad) arrived
  · exact arrived

theorem releasePeer (p : Port) {s : State} (h : P s) : P (releasePeer p s) := by
  simp only [Machine.releasePeer]
  split_ifs
  · exact K.schedules p (K.tunes p _ ⟨rfl, rfl, le_rfl, le_rfl⟩ h)
  · exact h

theorem pausePeer (p : Port) (time : BitVec 16) {s : State} (h : P s) : P (pausePeer p time s) := by
  simp only [Machine.pausePeer]
  split_ifs
  · exact K.releasePeer p h
  · exact K.tunes p _ ⟨rfl, rfl, le_rfl, le_rfl⟩ h

theorem controlArrival (p : Port) (act : State → State) (acts : ∀ {s}, P s → P (act s)) {s : State} (h : P s) :
    P (controlArrival p act s) := by
  simp only [Machine.controlArrival]
  split_ifs
  · exact K.arrive p h
  · exact acts (K.arrive p h)

theorem countBeacon (p : Port) (count : Fin 4) {s : State} (h : P s) : P (countBeacon p count s) :=
  K.tunes p _ ⟨rfl, rfl, le_rfl, le_rfl⟩ h

theorem checkBeacon (p : Port) (count : Fin 4) {s : State} (h : P s) : P (checkBeacon p count s) := by
  simp only [Machine.checkBeacon]
  split_ifs
  · exact K.errorEvent p (K.tunes p _ ⟨rfl, rfl, le_rfl, le_rfl⟩ h)
  · exact K.tunes p _ ⟨rfl, rfl, le_rfl, le_rfl⟩ h

theorem beaconArrival (p : Port) (count : Fin 4) {s : State} (h : P s) : P (beaconArrival p count s) := by
  have arrived := K.arrive p h
  have counted := K.countBeacon p count arrived
  simp only [Machine.beaconArrival]
  split_ifs
  · exact arrived
  · split
    · exact K.checkBeacon p count counted
    · exact K.checkBeacon p count counted
    · exact counted

theorem handControl (p : Port) (c : ControlFrame) {s : State} (h : P s) : P (handControl p c s) := by
  simp only [Machine.handControl]
  split_ifs
  · exact K.tunes p _ ⟨rfl, rfl, le_rfl, le_rfl⟩ h
  · exact K.emits _ h

theorem handBeacon (p : Port) {s : State} (h : P s) : P (handBeacon p s) := by
  have counted := K.tunes p (fun u => { u with rollingCount := u.rollingCount + 1, beaconsSent := u.beaconsSent + 1 })
    ⟨rfl, rfl, le_rfl, le_rfl⟩ h
  simp only [Machine.handBeacon]
  split_ifs
  · exact K.tunes p _ ⟨rfl, rfl, le_rfl, le_rfl⟩ counted
  · exact K.emits _ counted

theorem nextBeacon (p : Port) {s : State} (h : P s) : P (nextBeacon p s) :=
  K.tunes p _ ⟨rfl, rfl, le_rfl, le_rfl⟩ (K.handBeacon p h)

theorem endBreak (p : Port) {s : State} (h : P s) : P (endBreak p s) := by
  simp only [Machine.endBreak]
  split
  · exact K.emits _ (K.tunes p _ ⟨rfl, rfl, le_rfl, le_rfl⟩ h)
  · exact h

/-- A drop of line-good fences in UP, returns a PROBING port to DOWN, and stops qualification in DOWN. -/
theorem dropLine (p : Port) {s : State} (h : P s) : P (dropLine p s) := by
  have spoiled := K.spoils p (K.tunes p (fun u => { u with lineGood := false }) ⟨rfl, rfl, le_rfl, le_rfl⟩ h)
  simp only [Machine.dropLine]
  split
  next up => exact K.fences p .lineLost (Or.inl (by simpa using up)) spoiled
  next probing =>
    have still : (withdraw p (spoilMeasurement p (modPort p (fun u => { u with lineGood := false }) s))).ports[p].link =
      .probing := by simpa using probing
    exact K.entersDown p (by rw [still]; decide) (by rw [still]; decide) (K.withdraws p spoiled)
  · exact K.tunes p _ ⟨rfl, rfl, le_rfl, le_rfl⟩ spoiled
  · exact spoiled

theorem raiseLine (p : Port) {s : State} (h : P s) : P (raiseLine p s) := by
  have good := K.tunes p (fun u => { u with lineGood := true }) ⟨rfl, rfl, le_rfl, le_rfl⟩ h
  simp only [Machine.raiseLine]
  split_ifs
  · exact K.tunes p _ ⟨rfl, rfl, le_rfl, le_rfl⟩ good
  · exact good

theorem detectBreak (p : Port) {s : State} (h : P s) : P (detectBreak p s) := by
  have seen := K.tunes p
    (fun u => { u with receivedBreak := u.receivedBreak.map fun b => { b with detected := true } })
    ⟨rfl, rfl, le_rfl, le_rfl⟩ h
  simp only [Machine.detectBreak]
  split
  · exact seen
  next up => exact K.fences p .peerBreak (Or.inl (by simpa using up)) (K.tunes p _ ⟨rfl, rfl, le_rfl, le_rfl⟩ seen)
  · exact K.tunes p _ ⟨rfl, rfl, le_rfl, le_rfl⟩ seen

theorem endReceivedBreak (p : Port) {s : State} (h : P s) : P (endReceivedBreak p s) := by
  refine K.tunes p (fun u => { u with receivedBreak := none }) ⟨rfl, rfl, le_rfl, le_rfl⟩ ?_
  split_ifs
  · exact K.detectBreak p h
  · exact h

theorem becomeQuiet (p : Port) {s : State} (h : P s) : P (becomeQuiet p s) := by
  refine K.quiets p (s := modPort p (fun u => { u with quiet := true, quietTimer := none }) s) ?_
  exact K.tunes p _ ⟨rfl, rfl, le_rfl, le_rfl⟩ h

theorem endHolddown (p : Port) {s : State} (fenced : s.ports[p].link = .fenced) (h : P s) :
    P (endHolddown p s) := by
  refine K.entersDown p ?_ ?_ (K.tunes p (fun u => { u with holddown := none }) ⟨rfl, rfl, le_rfl, le_rfl⟩ h) <;>
    simp only [modPort_self, fenced, ne_eq, reduceCtorEq, not_false_eq_true]

theorem deliverResult (r : MeasureRequest) (margin : Nat) {s : State} (h : P s) : P (deliverResult r margin s) := by
  simp only [Machine.deliverResult, takeResult]
  repeat' split
  · exact h
  · exact K.entersUp _ ‹_› h
  · exact K.fences _ .marginLow (Or.inr ‹_›) h
  · exact h
  · exact K.measured _ h

theorem completeMeasurement (raw : Byte) {s : State} (h : P s) : P (completeMeasurement raw s) := by
  simp only [Machine.completeMeasurement]
  split
  · exact h
  · exact K.nextMeasured (K.deliverResult _ _ h)

theorem startPausing (p : Port) {s : State} (h : P s) : P (startPausing p s) :=
  K.generates p _ (K.handControl p _ h)

theorem endPausing (p : Port) {s : State} (h : P s) : P (endPausing p s) :=
  K.generates p _ (K.handControl p _ h)

/-! ### Every command -/

omit K in
/-- An event that may occur keeps what it keeps where it occurs. -/
theorem of_occurs {due : Bool} {s t after : State}
    (answers : (.next (if due then after else s) : Answered) = .next t)
    (keeps : due = true → P after) (h : P s) : P t := by
  rw [← Host.Outcome.next.inj answers]
  split_ifs with occurred
  · exact keeps occurred
  · exact h

/-- Every command keeps the property. -/
theorem exec (c : Instr) {s t : State} (allowed : restarts c s → restartable) (answers : exec c s = .next t)
    (h : P s) : P t := by
  cases carried : c.message? with
  | some m =>
    rw [exec_of_frame s carried] at answers
    exact Host.Outcome.next.inj answers ▸ K.frameArrival m h
  | none =>
    cases c with
    | framingError bytes | byteGapTimeout bytes =>
      exact Host.Outcome.next.inj answers ▸ K.receiveBytes bytes h
    | frameSendEnd => exact Host.Outcome.next.inj answers ▸ K.endSending (fun reply => allowed (Or.inr (Or.inr ⟨rfl, reply⟩))) h
    | powerRestart => exact Host.Outcome.next.inj answers ▸ K.restarted (allowed (Or.inl rfl)) ..
    | pinRestart =>
      rw [← Host.Outcome.next.inj answers]
      split_ifs with high
      · exact K.restarted (allowed (Or.inr (Or.inl ⟨rfl, high⟩))) ..
      · exact h
    | leaveRestart =>
      rw [← Host.Outcome.next.inj answers]
      split_ifs
      · exact K.leavePart h
      · exact h
    | frameReceptionBegin p =>
      exact Host.Outcome.next.inj answers ▸ K.tunes p _ ⟨rfl, rfl, le_rfl, le_rfl⟩ h
    | dataFrameArrival p f => exact Host.Outcome.next.inj answers ▸ K.conclude s (K.dataArrival p f h)
    | transmissionCompletion p =>
      rw [← Host.Outcome.next.inj answers]
      split
      · exact K.conclude s (K.completes _ p ‹_› h)
      · exact h
    | pauseFrameReceived p time =>
      exact Host.Outcome.next.inj answers ▸ K.controlArrival p _ (K.pausePeer p time) h
    | releaseFrameReceived p =>
      exact Host.Outcome.next.inj answers ▸ K.controlArrival p _ (K.releasePeer p) h
    | beaconReceived p n => exact Host.Outcome.next.inj answers ▸ K.conclude s (K.beaconArrival p n h)
    | baseTick n => exact Host.Outcome.next.inj answers ▸ K.passes n h
    | peerPauseExpiry p => exact of_occurs answers (fun _ => K.releasePeer p h) h
    | beaconTimerExpiry p => exact of_occurs answers (fun _ => K.nextBeacon p h) h
    | errorWindowEnd p => exact of_occurs answers (fun _ => K.startErrorWindow p h) h
    | silenceTimerExpiry p =>
      refine of_occurs answers (fun due => K.conclude s (K.fences p .silent (Or.inl ?_) h)) h
      simp only [silenceDue] at due
      split at due
      · simpa using (Bool.and_eq_true_iff.mp due).1
      · cases due
    | quietTimerExpiry p => exact of_occurs answers (fun _ => K.conclude s (K.becomeQuiet p h)) h
    | lineGoodDrop p => exact of_occurs answers (fun _ => K.conclude s (K.dropLine p h)) h
    | lineGoodRise p => exact of_occurs answers (fun _ => K.raiseLine p h) h
    | qualificationComplete p =>
      refine of_occurs answers (fun due => K.conclude s (K.entersProbing p ?_ h)) h
      simpa using (Bool.and_eq_true_iff.mp due).1
    | receivedBreakBegin p => exact of_occurs answers (fun _ => K.tunes p _ ⟨rfl, rfl, le_rfl, le_rfl⟩ h) h
    | receivedBreakEnd p => exact of_occurs answers (fun _ => K.conclude s (K.endReceivedBreak p h)) h
    | breakDetected p => exact of_occurs answers (fun _ => K.conclude s (K.detectBreak p h)) h
    | breakSendEnd p => exact of_occurs answers (fun _ => K.endBreak p h) h
    | holddownExpiry p =>
      refine of_occurs answers (fun due => K.conclude s (K.endHolddown p ?_ h)) h
      simpa using (Bool.and_eq_true_iff.mp due).1
    | steadyTimerComplete p =>
      exact of_occurs answers (fun _ => K.tunes p _ ⟨rfl, rfl, le_rfl, Nat.zero_le _⟩ h) h
    | flapWindowExpiry p => exact of_occurs answers (fun _ => K.tunes p _ ⟨rfl, rfl, le_rfl, le_rfl⟩ h) h
    | pausingPhaseExpiry p => exact of_occurs answers (fun _ => K.endPausing p h) h
    | releasingPhaseExpiry p => exact of_occurs answers (fun _ => K.startPausing p h) h
    | measurementComplete raw => exact of_occurs answers (fun _ => K.conclude s (K.completeMeasurement raw h)) h
    | agingSweep => exact of_occurs answers (fun _ => K.sweeps h) h
    | epochTick => exact of_occurs answers (fun due => K.transmit (K.ticks due h)) h
    | epochExpiry =>
      refine of_occurs answers (fun due => K.transmit (K.ticks ?_ h)) h
      simp only [expiryDue, Bool.and_eq_true] at due
      exact due.1.1
    | _ => exact absurd carried (by simp [Instr.message?, Instr.requestKind?, Instr.frameParts?])

omit K in
/-- Every step keeps the property. -/
theorem step (K : Kept P) (s t : State) (h : P s) (answers : step s = .next t) : P t := by
  cases waiting : s.pending with
  | nil =>
    rw [stepTakesTheFrontCommand.2 s waiting] at answers
    exact Host.Outcome.next.inj answers ▸ h
  | cons c rest =>
    rw [stepTakesTheFrontCommand.1 c rest s waiting] at answers
    exact K.exec c (fun _ => trivial) answers (K.waiting rest h)

end Kept

end Sys2Proof.Machine

/-! Facts about the composed operations, block by block: what they make of the pending results, of the measurement
engine, of the tables and of a port's unit. -/

namespace Sys2Proof.Machine

open Sys2Proof Sys2Proof.Safety

/-- What every operation of a list keeps, the list keeps. -/
theorem foldl_invariant {α : Type} {P : State → Prop} {f : State → α → State} (keeps : ∀ s a, P s → P (f s a))
    (l : List α) (s : State) (h : P s) : P (l.foldl f s) := by
  induction l generalizing s with
  | nil => exact h
  | cons a l ih => exact ih _ (keeps s a h)

/-! ### The MEASURE-DONE detail -/

@[simp] theorem evaluateQueue_measureDone (q : Port) (s : State) :
    (evaluateQueue q s).link.notices.measureDone = s.link.notices.measureDone := by
  simp only [evaluateQueue]
  split <;> simp [raiseRelief]

@[simp] theorem evaluateIfChanged_measureDone (q : Port) (b s : State) :
    (evaluateIfChanged q b s).link.notices.measureDone = s.link.notices.measureDone := by
  simp only [evaluateIfChanged]
  split <;> simp

@[simp] theorem evaluateChanged_measureDone (qs : List Port) (b s : State) :
    (evaluateChanged qs b s).link.notices.measureDone = s.link.notices.measureDone :=
  foldl_keeps (g := fun t : State => t.link.notices.measureDone) (fun _ _ => by simp) _ _

@[simp] theorem evaluateAll_measureDone (qs : List Port) (s : State) :
    (evaluateAll qs s).link.notices.measureDone = s.link.notices.measureDone :=
  foldl_keeps (g := fun t : State => t.link.notices.measureDone) (fun _ _ => by simp) _ _

@[simp] theorem flushPort_measureDone (p : Port) (s : State) :
    (flushPort p s).1.link.notices.measureDone = s.link.notices.measureDone := by simp [flushPort]

@[simp] theorem rehomePort_measureDone (p : Port) (s : State) :
    (rehomePort p s).1.link.notices.measureDone = s.link.notices.measureDone := by simp [rehomePort]

@[simp] theorem completeHead_measureDone (cls : TrafficClass) (p : Port) (s : State) :
    (completeHead cls p s).link.notices.measureDone = s.link.notices.measureDone := by
  simp only [completeHead]
  split <;> simp

@[simp] theorem admission_measureDone (o : Offer) (s : State) :
    (admission o s).link.notices.measureDone = s.link.notices.measureDone := by
  simp only [admission]
  repeat' split
  all_goals simp

@[simp] theorem setLink_measureDone (p : Port) (l : LinkState) (s : State) :
    (setLink p l s).link.notices.measureDone = s.link.notices.measureDone := rfl

@[simp] theorem raiseFault_measureDone (p : Port) (s : State) :
    (raiseFault p s).link.notices.measureDone = s.link.notices.measureDone := rfl

@[simp] theorem raiseQuiet_measureDone (p : Port) (s : State) :
    (raiseQuiet p s).link.notices.measureDone = s.link.notices.measureDone := rfl

@[simp] theorem enterDown_measureDone (p : Port) (s : State) :
    (enterDown p s).link.notices.measureDone = s.link.notices.measureDone := by
  simp only [enterDown]
  repeat' split
  all_goals simp

@[simp] theorem enterUp_measureDone (p : Port) (s : State) :
    (enterUp p s).link.notices.measureDone = s.link.notices.measureDone := by
  simp only [enterUp]
  repeat' split
  all_goals simp

@[simp] theorem enablePort_measureDone (p : Port) (c : PortConfig) (s : State) :
    (enablePort p c s).link.notices.measureDone = s.link.notices.measureDone := by
  simp only [enablePort]
  split <;> simp

@[simp] theorem learn_measureDone (g : SegmentId) (a : StationAddr) (x : Target) (t : TenantId) (s : State) :
    (learn g a x t s).link.notices.measureDone = s.link.notices.measureDone := by
  simp only [learn]
  split_ifs <;> simp [raiseLearnFullLimit, raiseLearnFullBucket]

@[simp] theorem sourceCheck_measureDone (c : Classified) (p : Port) (a : StationAddr) (s : State) :
    (sourceCheck c p a s).1.link.notices.measureDone = s.link.notices.measureDone := by
  simp only [sourceCheck]
  repeat' split
  all_goals simp [moveStation, raiseStationMove]

@[simp] theorem forward_measureDone (c : Classified) (p : Port) (f : DataFrame) (s : State) :
    (forward c p f s).link.notices.measureDone = s.link.notices.measureDone := by
  simp only [forward]
  split_ifs <;> simp

@[simp] theorem decideFrame_measureDone (p : Port) (f : DataFrame) (s : State) :
    (decideFrame p f s).link.notices.measureDone = s.link.notices.measureDone := by
  simp only [decideFrame]
  repeat' split
  all_goals simp

@[simp] theorem closeEpoch_measureDone (stop : Bool) (s : State) :
    (closeEpoch stop s).link.notices.measureDone = s.link.notices.measureDone := by
  simp only [closeEpoch]
  split_ifs <;> simp [raiseEpochClosed]

@[simp] theorem epochTickEvent_measureDone (s : State) :
    (epochTickEvent s).link.notices.measureDone = s.link.notices.measureDone := by
  simp only [epochTickEvent, expireEpoch, goOverdue]
  split_ifs <;> simp [raiseBillOverdue]

/-! ### The measurement engine and the results it raises -/

/-- R140: a withdrawal takes the port's pending requests out of both groups. -/
@[simp] theorem withdraw_measurement (p : Port) (s : State) :
    (withdraw p s).measurement =
      { s.measurement with
        recovery := s.measurement.recovery.filter (·.port ≠ p)
        host := s.measurement.host.filter (·.port ≠ p) } := by
  simp only [withdraw]
  split <;> simp

/-- R140: a withdrawn host request raises its result. -/
theorem withdraw_measureDone (p : Port) (s : State) :
    (withdraw p s).link.notices.measureDone =
      if s.measurement.host.any (·.port == p) then
        some (placeResult { port := p, outcome := .withdrawn } (s.link.notices.measureDone.getD []))
      else s.link.notices.measureDone := by
  simp only [withdraw]
  split <;> rfl

/-- R123, R140: a fence withdraws the port's requests. -/
@[simp] theorem fence_measurement (p : Port) (cause : FaultCause) (s : State) :
    (fence p cause s).measurement = (withdraw p s).measurement := by
  simp [fence]

/-- R123, R140: the result of a withdrawal is the only one a fence raises. -/
theorem fence_measureDone (p : Port) (cause : FaultCause) (s : State) :
    (fence p cause s).link.notices.measureDone = (withdraw p s).link.notices.measureDone := by
  have buffer (t : State) : (fenceBuffer p t).link.notices.measureDone = t.link.notices.measureDone := by
    simp only [fenceBuffer]
    split <;> simp
  simp [fence, withdraw_measureDone, buffer]

/-- R119, R140: a disable withdraws the port's requests. -/
@[simp] theorem disablePort_measurement (p : Port) (s : State) :
    (disablePort p s).measurement = (withdraw p s).measurement := by
  simp [disablePort]

/-- R119, R140: the result of a withdrawal is the only one a disable raises. -/
theorem disablePort_measureDone (p : Port) (s : State) :
    (disablePort p s).link.notices.measureDone = (withdraw p s).link.notices.measureDone := by
  simp [disablePort, withdraw_measureDone]

/-- R137: what the engine takes. -/
theorem beginMeasurement_cases (s : State) :
    beginMeasurement s = s ∧
        (s.measurement.inProgress = none → s.measurement.recovery = [] ∧ s.measurement.host = []) ∨
      ∃ i r, s.measurement.inProgress = none ∧
        ((∃ rest, s.measurement.recovery = r :: rest ∧
            (beginMeasurement s).measurement = { s.measurement with inProgress := some i, recovery := rest }) ∨
          ∃ rest, s.measurement.recovery = [] ∧ s.measurement.host = r :: rest ∧
            (beginMeasurement s).measurement = { s.measurement with inProgress := some i, host := rest }) := by
  simp only [beginMeasurement]
  split
  next r rest idle first => exact Or.inr ⟨_, r, idle, Or.inl ⟨rest, first, rfl⟩⟩
  next r rest idle empty first => exact Or.inr ⟨_, r, idle, Or.inr ⟨rest, empty, first, rfl⟩⟩
  next noRecovery noHost =>
    refine Or.inl ⟨rfl, fun idle => ?_⟩
    cases recovery : s.measurement.recovery with
    | cons r rest => exact (noRecovery r rest idle recovery).elim
    | nil =>
      cases host : s.measurement.host with
      | cons r rest => exact (noHost r rest idle recovery host).elim
      | nil => exact ⟨rfl, rfl⟩

end Sys2Proof.Machine

/-! What the operations make of the Port Units: each alters one port, and its unit after a fence, a disable and the
entries to DOWN and UP. -/

namespace Sys2Proof.Machine

open Sys2Proof Sys2Proof.Safety

/-- From `s` to `t` the unit of port `p` is altered by `g`, and no other. -/
def Alters (p : Port) (g : PortUnit → PortUnit) (s t : State) : Prop := t.ports = s.ports.set p (g s.ports[p])

namespace Alters

variable {p : Port} {g g' : PortUnit → PortUnit} {s t u : State}

theorem self (h : Alters p g s t) : t.ports[p] = g s.ports[p] := by
  simp only [Alters] at h
  rw [h]
  exact Vector.getElem_set_self p.isLt

theorem other (h : Alters p g s t) {q : Port} (hq : q ≠ p) : t.ports[q] = s.ports[q] := by
  simp only [Alters] at h
  rw [h]
  exact Vector.getElem_set_ne p.isLt q.isLt fun same => hq (Fin.ext same.symm)

theorem trans (h : Alters p g s t) (h' : Alters p g' t u) : Alters p (g' ∘ g) s u := by
  have unit := h.self
  simp only [Alters, Function.comp_apply] at h h' ⊢
  rw [h', unit, h, Vector.set_set]

/-- An operation that leaves the ports alters none. -/
theorem keep (h : Alters p g s t) (same : u.ports = t.ports) : Alters p g s u := same.trans h

theorem of_keep (same : t.ports = s.ports) : Alters p id s t := by
  simp only [Alters, same, id]
  exact (Vector.set_getElem_self p.isLt).symm

/-- One port is altered in one way. -/
theorem of_modPort (p : Port) (g : PortUnit → PortUnit) (s : State) : Alters p g s (modPort p g s) := rfl

/-- The same alteration in other words. -/
theorem congr (h : Alters p g s t) (same : g s.ports[p] = g' s.ports[p]) : Alters p g' s t := by
  simp only [Alters] at h ⊢
  rw [h, same]

end Alters

theorem alters_setLink (p : Port) (l : LinkState) (s : State) :
    Alters p (fun u => { u with link := l, reception := u.reception.map fun r => { r with changed := true } }) s
      (setLink p l s) :=
  (Alters.of_modPort p _ s).keep (by simp [setLink])

theorem alters_endBreak (p : Port) (s : State) :
    Alters p (fun u => { u with breakTimer := none }) s (endBreak p s) := by
  simp only [endBreak]
  split
  · exact (Alters.of_modPort p _ s).keep (by simp)
  next stopped =>
    refine (Alters.of_keep rfl).congr ?_
    rw [id, ← stopped]

/-- R72, R124: what the Buffer Manager's part in a fence writes into the unit. -/
def unpaused (flushed moved : Nat) (u : PortUnit) : PortUnit :=
  { u with
    peerPause := none
    capture := u.capture.map fun c => { c with copiesFlushed := flushed, copiesRehomed := moved } }

/-- R73: a station port's queues are flushed. -/
theorem fenceBuffer_of_station {p : Port} (h : isStation p = true) (s : State) :
    fenceBuffer p s = modPort p (unpaused (flushPort p s).2 0) (flushPort p s).1 := by
  simp only [fenceBuffer, h, if_true]
  rfl

/-- R75: a trunk port's queues are re-homed. -/
theorem fenceBuffer_of_trunk {p : Port} (h : isStation p = false) (s : State) :
    fenceBuffer p s = modPort p (unpaused (rehomePort p s).2.1 (rehomePort p s).2.2) (rehomePort p s).1 := by
  simp only [fenceBuffer, h, Bool.false_eq_true, if_false]
  rfl

theorem alters_fenceBuffer (p : Port) (s : State) :
    ∃ flushed moved, Alters p (unpaused flushed moved) s (fenceBuffer p s) := by
  cases station : isStation p
  · rw [fenceBuffer_of_trunk station]
    exact ⟨_, _, (Alters.of_keep (by simp)).trans (Alters.of_modPort p _ _)⟩
  · rw [fenceBuffer_of_station station]
    exact ⟨_, _, (Alters.of_keep (by simp)).trans (Alters.of_modPort p _ _)⟩

theorem alters_fenceLine (p : Port) (s : State) :
    Alters p
      (fun u =>
        { u with
          waitingControl := none, waitingBeacon := none, beaconTimer := none
          breakTimer := some (msToUs u.config.breakMs) }) s (fenceLine p s) :=
  (Alters.of_modPort p _ s).keep (by simp [fenceLine])

/-- The unit of a fenced port, its copies' two counts aside (R123 to R126, R129). -/
def fencedUnit (cause : FaultCause) (now : BitVec 48) (flushed moved : Nat) (u : PortUnit) : PortUnit :=
  { u with
    link := if isBarring u then .barred else .fenced
    reception := u.reception.map fun r =>
      { r with
        changed := true, cut := true
        silencedAt := if r.cut then none else if cause = .silent then some now else none }
    capture :=
      some
        { cause := cause, timestamp := now, stateAtFault := u.link, errorCount := u.errorCount,
          flapCount := flapCountAfter u, barred := isBarring u, copiesFlushed := flushed,
          copiesRehomed := moved, unread := true,
          overwritten := (u.capture.map Capture.unread).getD false }
    captureCount := u.captureCount + 1
    flapCount := flapCountAfter u
    flapWindow :=
      if isBarring u then none
      else if u.flapWindow.isSome then u.flapWindow else some (sToUs u.config.flapWindowS)
    holddown := if isBarring u then none else some (msToUs (u.config.holddownBaseMs * 2 ^ u.holddownStep))
    holddownStep := if isBarring u then u.holddownStep else min 6 (u.holddownStep + 1)
    errorWindow := if isBarring u then none else u.errorWindow
    errorCount := if isBarring u then 0 else u.errorCount
    silence := none, quiet := false, quietTimer := none, steady := none, reference := none
    peerPause := none, waitingControl := none, waitingBeacon := none, beaconTimer := none
    breakTimer := some (msToUs u.config.breakMs) }

/-- A new capture does not change the count of flaps. -/
theorem flapCountAfter_capture (u : PortUnit) (c : Option Capture) (n : BitVec 16) :
    flapCountAfter { u with capture := c, captureCount := n } = flapCountAfter u := rfl

/-- A new capture does not change whether a fence bars. -/
theorem isBarring_capture (u : PortUnit) (c : Option Capture) (n : BitVec 16) :
    isBarring { u with capture := c, captureCount := n } = isBarring u := rfl

/-- R123 to R126, R129: a fence alters its port alone. -/
theorem alters_fence (p : Port) (cause : FaultCause) (s : State) :
    ∃ flushed moved, Alters p (fencedUnit cause s.now flushed moved) s (fence p cause s) := by
  have loaded : Alters p _ s (loadHolddown p (isBarring s.ports[p]) (countFlap p (openCapture p cause s))) :=
    ((Alters.of_modPort p _ s).trans (Alters.of_modPort p _ _)).trans (Alters.of_modPort p _ _)
  have noted : Alters p _ s (setLink p (if isBarring s.ports[p] then .barred else .fenced)
      (loadHolddown p (isBarring s.ports[p]) (countFlap p (openCapture p cause s)))) :=
    Alters.trans loaded (alters_setLink p _ _)
  have stopped : Alters p _ s (stopMonitors p (isBarring s.ports[p])
      (cutReception p (if cause = .silent then some s.now else none)
        (setLink p (if isBarring s.ports[p] then .barred else .fenced)
          (loadHolddown p (isBarring s.ports[p]) (countFlap p (openCapture p cause s)))))) :=
    (noted.trans (Alters.of_modPort p _ _)).trans (Alters.of_modPort p _ _)
  obtain ⟨flushed, moved, emptied⟩ := alters_fenceBuffer p
      (stopMonitors p (isBarring s.ports[p])
        (cutReception p (if cause = .silent then some s.now else none)
          (setLink p (if isBarring s.ports[p] then .barred else .fenced)
            (loadHolddown p (isBarring s.ports[p]) (countFlap p (openCapture p cause s))))))
  refine ⟨flushed, moved, (((stopped.trans emptied).trans (alters_fenceLine p _)).keep ?_).congr ?_⟩
  · simp only [fence, raiseFault_keeps, withdraw_keeps, leaveUp_keeps, relieveDeparture_keeps, forgetStations_keeps]
  · generalize s.ports[p] = u
    cases barring : isBarring u <;>
      simp [fencedUnit, unpaused, barring, flapCountAfter_capture, isBarring_capture, Option.map_map, Function.comp_def]

/-! ### The entry to DOWN -/

/-- Two states whose blocks are the same are the same. -/
theorem state_ext {s t : State} (directory : s.directory = t.directory) (stations : s.stations = t.stations)
    (forwarding : s.forwarding = t.forwarding) (buffer : s.buffer = t.buffer) (relief : s.relief = t.relief)
    (ports : s.ports = t.ports) (measurement : s.measurement = t.measurement) (billing : s.billing = t.billing)
    (link : s.link = t.link) (now : s.now = t.now) (lineOut : s.lineOut = t.lineOut)
    (freeCount : s.freeCount = t.freeCount) (pending : s.pending = t.pending) : s = t := by
  cases s
  cases t
  simp_all

/-- Whether a line is busy is read from the buffer alone. -/
theorem lineBusy_congr {s t : State} (h : t.buffer = s.buffer) (p : Port) : lineBusy t p = lineBusy s p := by
  simp only [lineBusy, h]

/-- A trunk port's number is 32 or above. -/
theorem trunk_eq (p : Port) : decide (32 ≤ p.val) = !isStation p := by
  simp only [isStation, ← Nat.not_lt, decide_not]

theorem alters_handBeacon (p : Port) (s : State) :
    Alters p
      (fun u =>
        { u with
          rollingCount := u.rollingCount + 1, beaconsSent := u.beaconsSent + 1
          waitingBeacon := if lineBusy s p then some u.rollingCount else u.waitingBeacon }) s
      (handBeacon p s) := by
  have counted := Alters.of_modPort p
    (fun u => { u with rollingCount := u.rollingCount + 1, beaconsSent := u.beaconsSent + 1 }) s
  have busy (f : PortUnit → PortUnit) : lineBusy (modPort p f s) p = lineBusy s p := lineBusy_congr rfl p
  simp only [handBeacon, busy]
  split_ifs with h
  · exact (counted.trans (Alters.of_modPort p _ _)).congr rfl
  · exact counted.keep rfl

/-- What an entry to DOWN makes of the unit. -/
def downUnit (trunk busy : Bool) (u : PortUnit) : PortUnit :=
  { u with
    link := .down, breakTimer := none, reference := none
    reception := u.reception.map fun r => { r with changed := true }
    qualification := if u.lineGood = true then some (u.config.qualifyMs * 1000) else none
    rollingCount := if trunk = true then u.rollingCount + 1 else u.rollingCount
    beaconsSent := if trunk = true then u.beaconsSent + 1 else u.beaconsSent
    beaconTimer := if trunk = true then some (u.config.beaconMs * 1000) else u.beaconTimer
    waitingBeacon := if trunk = true ∧ busy = true then some u.rollingCount else u.waitingBeacon }

/-- R118, R121, R127, R128: what an entry to DOWN makes of its port. -/
theorem alters_enterDown (p : Port) (s : State) :
    Alters p (downUnit (decide (32 ≤ p.val)) (lineBusy s p)) s (enterDown p s) := by
  have entered : Alters p _ s (setLink p .down (endBreak p s)) :=
    Alters.trans (alters_endBreak p s) (alters_setLink p .down _)
  have busy : lineBusy (setLink p .down (endBreak p s)) p = lineBusy s p := lineBusy_congr (by simp) p
  have qualified (t : State) : Alters p
      (fun u => { u with qualification := if u.lineGood = true then some (u.config.qualifyMs * 1000) else none,
                         reference := none }) t
      (let t' := modPort p (fun u => { u with reference := none, qualification := none }) t
       if t'.ports[p].lineGood then startQualification p t' else t') := by
    simp only [modPort_self]
    split_ifs with good
    · exact ((Alters.of_modPort p _ _).trans (Alters.of_modPort p _ _)).congr (by simp [-Fin.getElem_fin, good, msToUs])
    · exact (Alters.of_modPort p _ _).congr (by simp [-Fin.getElem_fin, good])
  cases station : isStation p
  · simp only [enterDown, trunk_eq, station, Bool.not_false, Bool.false_eq_true, if_false]
    exact ((entered.trans ((alters_handBeacon p _).trans (Alters.of_modPort p _ _))).trans
      (qualified _)).congr (by simp [downUnit, busy, msToUs])
  · simp only [enterDown, trunk_eq, station, Bool.not_true, if_true]
    exact (entered.trans (qualified _)).congr (by simp [downUnit])

theorem endBreak_lineOut (p : Port) (s : State) :
    (endBreak p s).lineOut =
      s.lineOut ++ if s.ports[p].breakTimer.isSome = true then [.breakEnd p] else [] := by
  simp only [endBreak]
  split
  next running => simp [-Fin.getElem_fin, running]
  next stopped => simp [-Fin.getElem_fin, stopped]

theorem handBeacon_lineOut (p : Port) (s : State) :
    (handBeacon p s).lineOut =
      s.lineOut ++ if lineBusy s p = true then [] else [.beacon p s.ports[p].rollingCount] := by
  have busy (f : PortUnit → PortUnit) : lineBusy (modPort p f s) p = lineBusy s p := lineBusy_congr rfl p
  simp only [handBeacon, busy]
  split_ifs <;> simp

/-- R107, R111: what an entry to DOWN puts on the line: the end of a break in progress and a trunk's beacon. -/
theorem enterDown_lineOut (p : Port) (s : State) :
    (enterDown p s).lineOut = (entersDown p s.ports[p] s).lineOut := by
  have entered : Alters p _ s (setLink p .down (endBreak p s)) :=
    Alters.trans (alters_endBreak p s) (alters_setLink p .down _)
  have count : (setLink p .down (endBreak p s)).ports[p].rollingCount = s.ports[p].rollingCount := by
    rw [entered.self]
    rfl
  have busy : lineBusy (setLink p .down (endBreak p s)) p = lineBusy s p := lineBusy_congr (by simp) p
  have last (t : State) : (if t.ports[p].lineGood then startQualification p t else t).lineOut = t.lineOut := by
    split_ifs <;> simp
  simp only [enterDown, last, entersDown, trunk_eq]
  cases station : isStation p
  · cases b : lineBusy s p <;> simp [-Fin.getElem_fin, handBeacon_lineOut, endBreak_lineOut, busy, count, b]
  · simp [endBreak_lineOut]

/-- R131: a change of link state raises PORT-CHANGE. -/
theorem setLink_link (p : Port) (l : LinkState) (s : State) :
    (setLink p l s).link = { s.link with notices := changed s.link.notices p } := rfl

/-- R131: an entry to DOWN raises PORT-CHANGE. -/
theorem enterDown_link (p : Port) (s : State) :
    (enterDown p s).link = { s.link with notices := changed s.link.notices p } := by
  have last (t : State) : (if t.ports[p].lineGood then startQualification p t else t).link = t.link := by
    split_ifs <;> simp
  simp only [enterDown, last]
  split_ifs <;> simp [setLink_link]

/-- An entry to DOWN leaves what the statements say. -/
theorem enterDown_eq (p : Port) (s : State) : enterDown p s = entersDown p s.ports[p] s := by
  refine state_ext ?_ ?_ ?_ ?_ ?_ ?ports ?_ ?_ ?link ?_ ?lineOut ?_ ?_
  case ports => exact alters_enterDown p s
  case link => exact enterDown_link p s
  case lineOut => exact enterDown_lineOut p s
  all_goals simp [entersDown]

/-- The unit given, an entry to DOWN from an altered port is one from the port as it was. -/
theorem enterDown_modPort (p : Port) (f : PortUnit → PortUnit) (s : State) :
    enterDown p (modPort p f s) = entersDown p (f s.ports[p]) s := by
  rw [enterDown_eq, modPort_self]
  simp [entersDown, lineBusy_congr (modPort_buffer p f s)]

/-! ### The entry to UP -/

/-- R122: what an entry to UP makes of its port. -/
theorem alters_enterUp (p : Port) (s : State) :
    Alters p
      (fun u =>
        { u with
          link := .up, reception := u.reception.map fun r => { r with changed := true }
          silence := if p.val < 32 then none else some 0
          quiet := false, quietTimer := none, steady := some 0 }) s (enterUp p s) := by
  have entered := alters_setLink p .up s
  have station : (isStation p = true) = (p.val < 32) := by simp [isStation]
  simp only [enterUp, station]
  refine ((entered.keep ?_).trans (Alters.of_modPort p _ _)).congr rfl
  split_ifs <;> simp

/-- R52: a trunk member's bit joins the UP membership of its group. -/
theorem joinUp_forwarding (p : Port) (s : State) :
    (joinUp p s).forwarding =
      match groupOfPort s p with
      | some .a => { s.forwarding with
          groupA := { s.forwarding.groupA with up := s.forwarding.groupA.up ||| (1#8 <<< (p.val - 32)) } }
      | some .b => { s.forwarding with
          groupB := { s.forwarding.groupB with up := s.forwarding.groupB.up ||| (1#8 <<< (p.val - 32)) } }
      | none => s.forwarding := by
  simp only [joinUp]
  cases groupOfPort s p with
  | none => rfl
  | some g => cases g <;> rfl

/-- A station port is in no trunk group. -/
theorem groupOfPort_of_station {p : Port} (h : isStation p = true) (s : State) : groupOfPort s p = none := by
  simp [groupOfPort, inTrunkSet, h]

/-- The group of a port is read from the tables alone. -/
theorem groupOfPort_congr {s t : State} (h : t.forwarding = s.forwarding) (p : Port) :
    groupOfPort t p = groupOfPort s p := by
  simp only [groupOfPort, h]

/-- A port that has just entered UP contributes exactly where its frames hold a share. -/
theorem contributes_of_up {s : State} {p : Port} (h : s.ports[p].link = .up) (q : Port) :
    contributes s q p = decide (s.relief.settings.share ≤ cellsFrom s.buffer s.buffer.held[q] p) := by
  simp [-Fin.getElem_fin, contributes, h]

/-- An entry to UP leaves what the statements say. -/
theorem enterUp_eq (p : Port) (s : State) : enterUp p s = entersUp p s := by
  have up : (setLink p .up s).ports[p].link = .up := by rw [(alters_setLink p .up s).self]
  refine state_ext ?_ ?_ ?forwarding ?_ ?relief ?ports ?_ ?_ ?link ?_ ?_ ?_ ?_
  case ports => exact alters_enterUp p s
  case link =>
    simp only [enterUp]
    split_ifs <;> simp [setLink_link, entersUp]
  case forwarding =>
    simp only [enterUp, modPort_forwarding, joinContributors_keeps, entersUp]
    split_ifs with station
    · simp [groupOfPort_of_station station]
    · rw [joinUp_forwarding]
      have group := groupOfPort_congr (s := s) (t := setLink p .up s) (by simp) p
      rw [group]
      cases groupOfPort s p with
      | none => simp
      | some g => cases g <;> simp
  case relief =>
    have joins (t : State) (hr : t.relief = s.relief) (hb : t.buffer = s.buffer) (hp : t.ports[p].link = .up) :
        (joinContributors p t).relief = (entersUp p s).relief := by
      simp [-Fin.getElem_fin, joinContributors, entersUp, contributes_of_up hp, hr, hb]
    simp only [enterUp, modPort_relief]
    split_ifs
    · exact joins _ (by simp) (by simp) up
    · exact joins _ (by simp) (by simp) (by simpa using up)
  all_goals
    simp only [enterUp, entersUp]
    split_ifs <;> simp

/-! ### The disable -/

/-- R119: what a disable makes of its port. -/
theorem alters_disablePort (p : Port) (s : State) :
    Alters p
      (fun u =>
        { u with
          link := .disabled
          reception := u.reception.map fun r => { r with changed := true, cut := true, silencedAt := none }
          breakTimer := none, errorCount := 0, errorWindow := none, lastBeacon := none
          reference := none, beaconTimer := none, silence := none, quiet := false
          quietTimer := none, qualification := none, peerPause := none, holddown := none
          steady := none, flapCount := 0, flapWindow := none, holddownStep := 0
          waitingControl := none, waitingBeacon := none, presentRequest := none }) s (disablePort p s) := by
  have cut : Alters p _ s (cutReception p none (setLink p .disabled s)) :=
    (alters_setLink p .disabled s).trans (Alters.of_modPort p _ _)
  simp only [disablePort]
  refine (((cut.keep ?_).trans (alters_endBreak p _)).trans (Alters.of_modPort p _ _)).congr ?_
  · simp
  · simp [Option.map_map, Function.comp_def]

end Sys2Proof.Machine

/-! The egress queues as a multiset of the records their copies name: what each operation of the Buffer Manager makes
of it, of the records and of the held streaks. -/

namespace Sys2Proof.Machine

open Sys2Proof Sys2Proof.Safety

/-! ### Sums over the ports -/

/-- A sum over the ports in which one port's part is updated. -/
theorem sum_updAt {α M : Type} [AddCommMonoid M] (F : Port → α → M) (v : Vector α 40) (p : Port) (f : α → α) :
    ((List.finRange 40).map fun q => F q (updAt v p f)[q]).sum + F p v[p] =
      ((List.finRange 40).map fun q => F q v[q]).sum + F p (f v[p]) := by
  rw [← Fin.sum_univ_def, ← Fin.sum_univ_def, ← Finset.sum_erase_add _ _ (Finset.mem_univ p),
    ← Finset.sum_erase_add _ (fun q => F q v[q]) (Finset.mem_univ p)]
  have same : ∑ q ∈ Finset.univ.erase p, F q (updAt v p f)[q] = ∑ q ∈ Finset.univ.erase p, F q v[q] := by
    refine Finset.sum_congr rfl fun q hq => ?_
    have other : (updAt v p f)[q] = v[q] :=
      Vector.getElem_set_ne p.isLt q.isLt fun same => (Finset.mem_erase.mp hq).1 (Fin.ext same.symm)
    rw [other]
  have here : (updAt v p f)[p] = f v[p] := Vector.getElem_set_self p.isLt
  rw [same, here, add_assoc, add_assoc, add_comm (F p (f v[p]))]

/-! ### The copies of a queue -/

/-- The records that the copies of a queue name. -/
def idsOf (q : List CopyEntry) : Multiset Nat := q.map CopyEntry.frame

@[simp] theorem idsOf_nil : idsOf [] = 0 := rfl

@[simp] theorem idsOf_cons (c : CopyEntry) (q : List CopyEntry) : idsOf (c :: q) = c.frame ::ₘ idsOf q := rfl

@[simp] theorem idsOf_append (q r : List CopyEntry) : idsOf (q ++ r) = idsOf q + idsOf r := by
  simp [idsOf]

@[simp] theorem idsOf_startHead (q : List CopyEntry) : idsOf (startHead q) = idsOf q := by
  cases q <;> rfl

/-- The records that all copies name. -/
def copyIds (b : Buffer) : Multiset Nat :=
  ((List.finRange 40).map fun p => idsOf b.held[p] + idsOf b.bulk[p]).sum

/-- R59: the copy entries in use are the copies. -/
theorem entriesInUse_eq (b : Buffer) : entriesInUse b = (copyIds b).card := by
  simp only [entriesInUse, copyIds, ← Fin.sum_univ_def, Multiset.card_sum]
  simp [idsOf]

/-- A queue replaced: its copies leave, and those of its replacement come. -/
theorem copyIds_modQueue (cls : TrafficClass) (p : Port) (f : List CopyEntry → List CopyEntry) (s : State) :
    copyIds (modQueue cls p f s).buffer + idsOf (queueOf s.buffer cls p) =
      copyIds s.buffer + idsOf (f (queueOf s.buffer cls p)) := by
  cases cls with
  | held =>
    have sum := sum_updAt (fun q h => idsOf h + idsOf s.buffer.bulk[q]) s.buffer.held p f
    simp only [add_comm (idsOf _) (idsOf s.buffer.bulk[p])] at sum
    simp only [copyIds, modQueue, queueOf]
    rw [← add_assoc, ← add_assoc, add_right_comm, add_right_comm _ (idsOf s.buffer.bulk[p])] at sum
    exact add_right_cancel sum
  | bulk =>
    have sum := sum_updAt (fun q h => idsOf s.buffer.held[q] + idsOf h) s.buffer.bulk p f
    simp only [copyIds, modQueue, queueOf]
    rw [← add_assoc, ← add_assoc, add_right_comm, add_right_comm _ (idsOf s.buffer.held[p])] at sum
    exact add_right_cancel sum

/-- A queue whose copies name the same records. -/
theorem copyIds_modQueue_same (cls : TrafficClass) (p : Port) {f : List CopyEntry → List CopyEntry} (s : State)
    (h : idsOf (f (queueOf s.buffer cls p)) = idsOf (queueOf s.buffer cls p)) :
    copyIds (modQueue cls p f s).buffer = copyIds s.buffer := by
  have replaced := copyIds_modQueue cls p f s
  rw [h] at replaced
  exact add_right_cancel replaced

/-- A copy at the tail of a queue. -/
theorem copyIds_append (cls : TrafficClass) (p : Port) (c : CopyEntry) (s : State) :
    copyIds (modQueue cls p (· ++ [c]) s).buffer = c.frame ::ₘ copyIds s.buffer := by
  have replaced := copyIds_modQueue cls p (· ++ [c]) s
  rw [idsOf_append, ← add_assoc, add_right_comm] at replaced
  have cancelled := add_right_cancel replaced
  rw [cancelled, idsOf_cons, idsOf_nil, ← Multiset.singleton_add, add_comm]
  simp

/-- The head of a queue taken out. -/
theorem copyIds_tail {cls : TrafficClass} {p : Port} {c : CopyEntry} {rest : List CopyEntry} {s : State}
    (h : queueOf s.buffer cls p = c :: rest) :
    copyIds s.buffer = c.frame ::ₘ copyIds (modQueue cls p (fun _ => rest) s).buffer := by
  have replaced := copyIds_modQueue cls p (fun _ => rest) s
  rw [h, idsOf_cons, Multiset.add_cons, ← Multiset.cons_add] at replaced
  exact (add_right_cancel replaced).symm

@[simp] theorem setStreak_copyIds (p : Port) (n : Nat) (s : State) :
    copyIds (setStreak p n s).buffer = copyIds s.buffer := rfl

/-- R73: a port's queues emptied. -/
theorem copyIds_emptyQueues (p : Port) (s : State) :
    copyIds s.buffer = copyIds (emptyQueues p s).buffer + idsOf (s.buffer.held[p] ++ s.buffer.bulk[p]) := by
  have bulk := copyIds_modQueue .bulk p (fun _ => []) s
  have held := copyIds_modQueue .held p (fun _ => []) (modQueue .bulk p (fun _ => []) s)
  simp only [idsOf_nil, add_zero] at bulk held
  have sameHeld : queueOf (modQueue .bulk p (fun _ => []) s).buffer .held p = s.buffer.held[p] := rfl
  have ofBulk : queueOf s.buffer .bulk p = s.buffer.bulk[p] := rfl
  rw [sameHeld] at held
  rw [ofBulk] at bulk
  rw [← bulk, ← held, idsOf_append, emptyQueues, setStreak_copyIds, add_assoc]

/-- The copies are the same where the queues are. -/
theorem copyIds_congr {b b' : Buffer} (held : b'.held = b.held) (bulk : b'.bulk = b.bulk) :
    copyIds b' = copyIds b := by
  simp only [copyIds, held, bulk]

/-! ### The scheduler -/

@[simp] theorem beginTransmission_records (cls : TrafficClass) (p : Port) (s : State) :
    (beginTransmission cls p s).buffer.records = s.buffer.records := by
  simp only [beginTransmission]
  repeat' split
  all_goals simp

@[simp] theorem beginTransmission_streak (cls : TrafficClass) (p : Port) (s : State) :
    (beginTransmission cls p s).buffer.streak = s.buffer.streak := by
  simp only [beginTransmission]
  repeat' split
  all_goals simp

@[simp] theorem beginTransmission_copyIds (cls : TrafficClass) (p : Port) (s : State) :
    copyIds (beginTransmission cls p s).buffer = copyIds s.buffer := by
  have started := copyIds_modQueue_same cls p (f := startHead) s (idsOf_startHead _)
  simp only [beginTransmission]
  repeat' split
  · rfl
  · exact started
  · exact started

@[simp] theorem schedule_records (p : Port) (s : State) :
    (schedule p s).buffer.records = s.buffer.records := by
  simp only [schedule]
  split <;> simp

@[simp] theorem schedule_copyIds (p : Port) (s : State) : copyIds (schedule p s).buffer = copyIds s.buffer := by
  simp only [schedule]
  split <;> simp

@[simp] theorem scheduleAll_records (ps : List Port) (s : State) :
    (scheduleAll ps s).buffer.records = s.buffer.records :=
  foldl_keeps (g := fun t : State => t.buffer.records) (fun _ _ => by simp) _ _

@[simp] theorem scheduleAll_copyIds (ps : List Port) (s : State) :
    copyIds (scheduleAll ps s).buffer = copyIds s.buffer :=
  foldl_keeps (g := fun t : State => copyIds t.buffer) (fun _ _ => by simp) _ _

/-! ### Copies leaving -/

@[simp] theorem dropCopy_held (id : Nat) (s : State) : (dropCopy id s).buffer.held = s.buffer.held := rfl

@[simp] theorem dropCopy_bulk (id : Nat) (s : State) : (dropCopy id s).buffer.bulk = s.buffer.bulk := rfl

@[simp] theorem dropCopy_streak (id : Nat) (s : State) : (dropCopy id s).buffer.streak = s.buffer.streak := rfl

/-- A delivered or flushed copy changes the records alone. -/
@[simp] theorem deliverCopy_queues (id : Nat) (s : State) :
    (deliverCopy id s).buffer.held = s.buffer.held ∧ (deliverCopy id s).buffer.bulk = s.buffer.bulk ∧
      (deliverCopy id s).buffer.streak = s.buffer.streak := by
  simp only [deliverCopy]
  split <;> simp

@[simp] theorem flushCopy_queues (id : Nat) (s : State) :
    (flushCopy id s).buffer.held = s.buffer.held ∧ (flushCopy id s).buffer.bulk = s.buffer.bulk ∧
      (flushCopy id s).buffer.streak = s.buffer.streak := by
  simp only [flushCopy]
  split <;> simp

@[simp] theorem flushCopies_queues (cs : List CopyEntry) (s : State) :
    (flushCopies cs s).buffer.held = s.buffer.held ∧ (flushCopies cs s).buffer.bulk = s.buffer.bulk ∧
      (flushCopies cs s).buffer.streak = s.buffer.streak :=
  ⟨foldl_keeps (g := fun t : State => t.buffer.held) (fun _ _ => by simp) _ _,
    foldl_keeps (g := fun t : State => t.buffer.bulk) (fun _ _ => by simp) _ _,
    foldl_keeps (g := fun t : State => t.buffer.streak) (fun _ _ => by simp) _ _⟩

@[simp] theorem emptyQueues_streak (p : Port) (s : State) :
    (emptyQueues p s).buffer.streak = s.buffer.streak.set p 0 := by simp [emptyQueues]

@[simp] theorem emptyQueues_records (p : Port) (s : State) :
    (emptyQueues p s).buffer.records = s.buffer.records := by simp [emptyQueues]

@[simp] theorem rehomeHeld_streak (p : Port) (cs : List CopyEntry) (s : State) :
    (rehomeHeld p cs s).buffer.streak = s.buffer.streak :=
  foldl_keeps (g := fun t : State => t.buffer.streak) (fun t c => by split <;> simp) _ _

@[simp] theorem storeFrame_streak (o : Offer) (id : Nat) (st : Storage) (ps : List Port) (s : State) :
    (storeFrame o id st ps s).buffer.streak = s.buffer.streak :=
  foldl_keeps (g := fun t : State => t.buffer.streak) (fun _ _ => by simp) _ _

/-! ### The held streaks (R67) -/

/-- R67: every held streak is at most 8. -/
def streaksBounded (b : Buffer) : Prop := ∀ p : Port, b.streak[p] ≤ 8

theorem streaksBounded_set {b : Buffer} {v : Vector Nat 40} (h : streaksBounded b) (p : Port) {n : Nat} (hn : n ≤ 8)
    (hv : v = b.streak.set p n) (q : Port) : v[q] ≤ 8 := by
  subst hv
  by_cases same : q = p
  · subst same
    rw [Fin.getElem_fin, Vector.getElem_set_self]
    exact hn
  · rw [Fin.getElem_fin, Vector.getElem_set_ne _ _ fun eq => same (Fin.ext eq.symm)]
    exact h q

theorem streaksBounded_congr {b b' : Buffer} (same : b'.streak = b.streak) (h : streaksBounded b) :
    streaksBounded b' := by
  intro p
  rw [same]
  exact h p

theorem streaksBounded_schedule (p : Port) {s : State} (h : streaksBounded s.buffer) :
    streaksBounded (schedule p s).buffer := by
  simp only [schedule]
  split
  · exact fun q => streaksBounded_set h p (n := min 8 (s.buffer.streak[p] + 1)) (Nat.min_le_left 8 _) (by simp) q
  · exact fun q => streaksBounded_set h p (Nat.zero_le 8) (by simp) q
  · exact h

theorem streaksBounded_scheduleAll (ps : List Port) {s : State} (h : streaksBounded s.buffer) :
    streaksBounded (scheduleAll ps s).buffer :=
  foldl_invariant (P := fun t => streaksBounded t.buffer) (fun _ p => streaksBounded_schedule p) ps s h

theorem streaksBounded_flushPort (p : Port) {s : State} (h : streaksBounded s.buffer) :
    streaksBounded (flushPort p s).1.buffer :=
  fun q => streaksBounded_set h p (Nat.zero_le 8) (by simp [flushPort]) q

theorem streaksBounded_rehomePort (p : Port) {s : State} (h : streaksBounded s.buffer) :
    streaksBounded (rehomePort p s).1.buffer := by
  simp only [rehomePort]
  refine streaksBounded_scheduleAll _ ?_
  exact fun q => streaksBounded_set h p (Nat.zero_le 8) (by simp) q

theorem streaksBounded_completeHead (cls : TrafficClass) (p : Port) {s : State} (h : streaksBounded s.buffer) :
    streaksBounded (completeHead cls p s).buffer := by
  simp only [completeHead]
  split
  · exact h
  · refine streaksBounded_congr (b := (schedule p _).buffer) (by rw [(evaluateIfChanged_keeps _ _ _).2.2.2.1]) ?_
    exact streaksBounded_schedule p (streaksBounded_congr (b := s.buffer) (by simp) h)

theorem streaksBounded_admission (o : Offer) {s : State} (h : streaksBounded s.buffer) :
    streaksBounded (admission o s).buffer := by
  have stored (x : State) (id : Nat) (st : Storage) (ps : List Port) (same : x.buffer = s.buffer) :
      streaksBounded (storeFrame o id st ps x).buffer :=
    streaksBounded_congr (b := s.buffer) (by simp [same]) h
  simp only [admission]
  split
  · split_ifs
    · simpa using h
    · refine streaksBounded_scheduleAll _ ?_
      split
      · simpa using stored _ _ _ _ (by simp)
      · exact stored _ _ _ _ (by simp)
  · simpa using h

end Sys2Proof.Machine

/-! Sizes: the buffer's records and copies, the keys of the station entries, and updates of ports that keep record and
link state. -/

namespace Sys2Proof.Machine

open Sys2Proof Sys2Proof.Safety

/-! ### A buffer that takes in nothing -/

/-- From `b` to `b'` no record and no copy comes in. -/
def NoLarger (b b' : Buffer) : Prop := b'.records.length ≤ b.records.length ∧ copyIds b' ≤ copyIds b

namespace NoLarger

variable {b b' b'' : Buffer}

theorem refl (b : Buffer) : NoLarger b b := ⟨le_rfl, le_rfl⟩

theorem trans (h : NoLarger b b') (h' : NoLarger b' b'') : NoLarger b b'' :=
  ⟨h'.1.trans h.1, h'.2.trans h.2⟩

theorem of_same (records : b'.records = b.records) (copies : copyIds b' = copyIds b) : NoLarger b b' :=
  ⟨by rw [records], copies.le⟩

end NoLarger

theorem dropCopy_length (id : Nat) (s : State) :
    (dropCopy id s).buffer.records.length ≤ s.buffer.records.length := List.length_filterMap_le ..

theorem noLarger_flushCopy (id : Nat) (s : State) : NoLarger s.buffer (flushCopy id s).buffer := by
  refine ⟨?_, (copyIds_congr (by simp) (by simp)).le⟩
  simp only [flushCopy]
  split
  · exact (dropCopy_length id _).trans (by simp)
  · exact le_rfl

theorem noLarger_deliverCopy (id : Nat) (s : State) : NoLarger s.buffer (deliverCopy id s).buffer := by
  refine ⟨?_, (copyIds_congr (by simp) (by simp)).le⟩
  simp only [deliverCopy]
  split
  · exact (dropCopy_length id _).trans (by simp)
  · exact le_rfl

theorem noLarger_flushCopies (cs : List CopyEntry) (s : State) : NoLarger s.buffer (flushCopies cs s).buffer :=
  foldl_invariant (P := fun t => NoLarger s.buffer t.buffer) (fun t c h => h.trans (noLarger_flushCopy c.frame t)) cs s
    (NoLarger.refl _)

theorem noLarger_schedule (p : Port) (s : State) : NoLarger s.buffer (schedule p s).buffer :=
  NoLarger.of_same (by simp) (by simp)

theorem noLarger_scheduleAll (ps : List Port) (s : State) : NoLarger s.buffer (scheduleAll ps s).buffer :=
  NoLarger.of_same (by simp) (by simp)

theorem noLarger_emptyQueues (p : Port) (s : State) : NoLarger s.buffer (emptyQueues p s).buffer := by
  refine ⟨by simp, ?_⟩
  rw [copyIds_emptyQueues p s]
  exact Multiset.le_add_right _ _

theorem noLarger_flushPort (p : Port) (s : State) : NoLarger s.buffer (flushPort p s).1.buffer := by
  have aborted : (abortTransmission p s).buffer = s.buffer := by simp
  have emptied := noLarger_emptyQueues p (abortTransmission p s)
  rw [aborted] at emptied
  simp only [flushPort, evaluateIfChanged_keeps]
  exact emptied.trans (noLarger_flushCopies _ _)

/-- R75: a re-home brings in no copy beside those it moves. -/
theorem rehomeHeld_bounds (p : Port) (cs : List CopyEntry) (s : State) :
    (rehomeHeld p cs s).buffer.records.length ≤ s.buffer.records.length ∧
      copyIds (rehomeHeld p cs s).buffer ≤ copyIds s.buffer + idsOf cs := by
  induction cs generalizing s with
  | nil => exact ⟨le_rfl, by simp [rehomeHeld]⟩
  | cons c cs ih =>
    have moved : rehomeHeld p (c :: cs) s =
        rehomeHeld p cs
          (match rehomeTarget s p c with
            | some m => modQueue .held m (· ++ [c]) s
            | none => flushCopy c.frame s) := rfl
    rw [moved, idsOf_cons, Multiset.add_cons, ← Multiset.cons_add]
    split
    next m _ =>
      obtain ⟨records, copies⟩ := ih (modQueue .held m (· ++ [c]) s)
      rw [copyIds_append] at copies
      exact ⟨by simpa using records, copies⟩
    · obtain ⟨records, copies⟩ := ih (flushCopy c.frame s)
      have less := noLarger_flushCopy c.frame s
      refine ⟨records.trans less.1, copies.trans ?_⟩
      exact add_le_add_left (less.2.trans (Multiset.le_cons_self _ _)) _

theorem noLarger_rehomePort (p : Port) (s : State) : NoLarger s.buffer (rehomePort p s).1.buffer := by
  have aborted : (abortTransmission p s).buffer = s.buffer := by simp
  set sending := s.buffer.held[p].filter CopyEntry.inTransmission ++
    s.buffer.bulk[p].filter CopyEntry.inTransmission with sending_eq
  set waitingBulk := s.buffer.bulk[p].filter fun c => !c.inTransmission with waitingBulk_eq
  set waitingHeld := s.buffer.held[p].filter fun c => !c.inTransmission with waitingHeld_eq
  set t := flushCopies waitingBulk (flushCopies sending (emptyQueues p (abortTransmission p s))) with t_eq
  have flushed : NoLarger (emptyQueues p (abortTransmission p s)).buffer t.buffer :=
    (noLarger_flushCopies _ _).trans (noLarger_flushCopies _ _)
  have emptied := copyIds_emptyQueues p (abortTransmission p s)
  rw [aborted] at emptied
  obtain ⟨records, copies⟩ := rehomeHeld_bounds p waitingHeld t
  have waiting : idsOf waitingHeld ≤ idsOf (s.buffer.held[p] ++ s.buffer.bulk[p]) := by
    rw [idsOf_append]
    refine le_trans ?_ (Multiset.le_add_right _ _)
    exact Multiset.coe_le.mpr ((List.filter_sublist.map _).subperm)
  have bounds : NoLarger s.buffer (rehomeHeld p waitingHeld t).buffer := by
    refine ⟨(records.trans flushed.1).trans (by simp), copies.trans ?_⟩
    rw [emptied]
    exact add_le_add flushed.2 waiting
  simp only [rehomePort]
  refine NoLarger.trans ?_ (noLarger_scheduleAll _ _)
  rw [(evaluateChanged_keeps _ _ _).2.2.2.1]
  exact bounds

theorem noLarger_completeHead (cls : TrafficClass) (p : Port) (s : State) :
    NoLarger s.buffer (completeHead cls p s).buffer := by
  simp only [completeHead]
  split
  · exact NoLarger.refl _
  next c rest head =>
    have taken : NoLarger s.buffer (modQueue cls p (fun _ => rest) s).buffer := by
      refine ⟨by simp, ?_⟩
      rw [copyIds_tail head]
      exact Multiset.le_cons_self _ _
    have delivered := taken.trans (noLarger_deliverCopy c.frame _)
    rw [(evaluateIfChanged_keeps _ _ _).2.2.2.1]
    refine NoLarger.trans ?_ (noLarger_schedule p _)
    rw [(sendWaiting_keeps _ _).2.2.2.1]
    exact delivered

/-! ### Where the other blocks take a fence or a disable -/

/-- The state in which the other blocks take a fence: the steps of R123 are done. -/
def fenceEntered (p : Port) (cause : FaultCause) (s : State) : State :=
  stopMonitors p (isBarring s.ports[p])
    (cutReception p (if cause = .silent then some s.now else none)
      (setLink p (if isBarring s.ports[p] then .barred else .fenced)
        (loadHolddown p (isBarring s.ports[p]) (countFlap p (openCapture p cause s)))))

/-- R123, R124: the steps of a fence. -/
theorem fence_eq (p : Port) (cause : FaultCause) (s : State) :
    fence p cause s =
      raiseFault p
        (withdraw p
          (leaveUp p
            (relieveDeparture p (forgetStations p (fenceLine p (fenceBuffer p (fenceEntered p cause s))))))) := rfl

@[simp] theorem fenceEntered_keeps (p : Port) (cause : FaultCause) (s : State) :
    (fenceEntered p cause s).directory = s.directory ∧ (fenceEntered p cause s).stations = s.stations ∧
      (fenceEntered p cause s).forwarding = s.forwarding ∧ (fenceEntered p cause s).buffer = s.buffer ∧
      (fenceEntered p cause s).relief = s.relief ∧ (fenceEntered p cause s).measurement = s.measurement ∧
      (fenceEntered p cause s).billing = s.billing ∧ (fenceEntered p cause s).now = s.now ∧
      (fenceEntered p cause s).lineOut = s.lineOut ∧ (fenceEntered p cause s).freeCount = s.freeCount ∧
      (fenceEntered p cause s).pending = s.pending := by
  simp [fenceEntered]

/-- R124: the buffer after a fence is what the Buffer Manager's part leaves. -/
theorem fence_buffer (p : Port) (cause : FaultCause) (s : State) :
    (fence p cause s).buffer =
      if isStation p then (flushPort p (fenceEntered p cause s)).1.buffer
      else (rehomePort p (fenceEntered p cause s)).1.buffer := by
  simp only [fence_eq, raiseFault_keeps, withdraw_keeps, leaveUp_keeps, relieveDeparture_keeps, forgetStations_keeps,
    fenceLine_keeps]
  cases station : isStation p
  · rw [fenceBuffer_of_trunk station, modPort_buffer]
    rfl
  · rw [fenceBuffer_of_station station, modPort_buffer]
    rfl

/-- R119: the buffer after a disable is what the flush leaves. -/
theorem disablePort_buffer (p : Port) (s : State) :
    (disablePort p s).buffer = (flushPort p (cutReception p none (setLink p .disabled s))).1.buffer := by
  simp only [disablePort, resetMonitors_keeps, endBreak_keeps, withdraw_keeps, leaveUp_keeps, relieveDeparture_keeps,
    forgetStations_keeps]

/-- R124: a fence brings in nothing. -/
theorem noLarger_fence (p : Port) (cause : FaultCause) (s : State) : NoLarger s.buffer (fence p cause s).buffer := by
  have same : (fenceEntered p cause s).buffer = s.buffer := (fenceEntered_keeps p cause s).2.2.2.1
  rw [fence_buffer, ← same]
  split_ifs
  · exact noLarger_flushPort p _
  · exact noLarger_rehomePort p _

/-- R119: a disable brings in nothing. -/
theorem noLarger_disablePort (p : Port) (s : State) : NoLarger s.buffer (disablePort p s).buffer := by
  rw [disablePort_buffer]
  have flushed := noLarger_flushPort p (cutReception p none (setLink p .disabled s))
  rwa [(cutReception_keeps _ _ _).2.2.2.1, (setLink_keeps _ _ _).2.2.2.1] at flushed

/-- R124: the held streaks after a fence. -/
theorem streaksBounded_fence (p : Port) (cause : FaultCause) {s : State} (h : streaksBounded s.buffer) :
    streaksBounded (fence p cause s).buffer := by
  have same : (fenceEntered p cause s).buffer = s.buffer := (fenceEntered_keeps p cause s).2.2.2.1
  rw [← same] at h
  rw [fence_buffer]
  split_ifs
  · exact streaksBounded_flushPort p h
  · exact streaksBounded_rehomePort p h

/-- R119: the held streaks after a disable. -/
theorem streaksBounded_disablePort (p : Port) {s : State} (h : streaksBounded s.buffer) :
    streaksBounded (disablePort p s).buffer := by
  rw [disablePort_buffer]
  exact streaksBounded_flushPort p (streaksBounded_congr (b := s.buffer) (by simp) h)

end Sys2Proof.Machine

/-! The keys of the station entries under the Station Table's operations, and operations that keep every port's record
and link state. -/

namespace Sys2Proof.Machine

open Sys2Proof Sys2Proof.Safety

/-! ### The keys of the Station Table -/

/-- The keys of a list of entries. -/
def keysOf (es : List StationEntry) : List (SegmentId × StationAddr) := es.map fun e => (e.segment, e.address)

/-- The order of keys. -/
def keyLt (k l : SegmentId × StationAddr) : Prop := k.1.val < l.1.val ∨ k.1 = l.1 ∧ k.2.toNat < l.2.toNat

theorem keyBefore_iff (e x : StationEntry) :
    keyBefore e x = true ↔ keyLt (e.segment, e.address) (x.segment, x.address) := by
  simp [keyBefore, keyLt]

/-- Two keys are in order, or the same. -/
theorem keyLt_total {k l : SegmentId × StationAddr} (different : k ≠ l) (h : ¬ keyLt k l) : keyLt l k := by
  obtain ⟨g, a⟩ := k
  obtain ⟨g', a'⟩ := l
  simp only [keyLt, not_or, not_and, Prod.mk.injEq, ne_eq] at *
  obtain lt | eq | gt := Nat.lt_trichotomy g.val g'.val
  · omega
  · have same : g = g' := Fin.ext eq
    have addresses : a.toNat ≠ a'.toNat := fun eq => different same (BitVec.eq_of_toNat_eq eq)
    have := h.2 same
    exact Or.inr ⟨same.symm, by omega⟩
  · exact Or.inl gt

/-- The table is sorted where its keys rise. -/
theorem stationsSorted_iff (s : State) : stationsSorted s ↔ (keysOf s.stations.entries).Pairwise keyLt := by
  simp only [stationsSorted, keysOf, List.pairwise_map, keyBefore_iff]

/-- R18: the ways of a bucket are counted by the keys. -/
theorem bucketUse_eq (s : State) (bucket : Nat) :
    bucketUse s bucket = (keysOf s.stations.entries).countP fun k => bucketOf k.1 k.2 == bucket := by
  simp only [bucketUse, keysOf, List.countP_map, Function.comp_def]

/-- From `s` to `t` the Station Table takes in no key, and its sweep period stays. -/
def KeysLeave (s t : State) : Prop :=
  (keysOf t.stations.entries).Sublist (keysOf s.stations.entries) ∧
    t.stations.sweepPeriod = s.stations.sweepPeriod

namespace KeysLeave

theorem refl (s : State) : KeysLeave s s := ⟨List.Sublist.refl _, rfl⟩

variable {s t u : State}

theorem trans (h : KeysLeave s t) (h' : KeysLeave t u) : KeysLeave s u := ⟨h'.1.trans h.1, h'.2.trans h.2⟩

theorem of_same (h : t.stations = s.stations) : KeysLeave s t := by
  rw [KeysLeave, h]
  exact ⟨List.Sublist.refl _, rfl⟩

theorem sorted (h : KeysLeave s t) (hs : stationsSorted s) : stationsSorted t :=
  (stationsSorted_iff t).mpr (((stationsSorted_iff s).mp hs).sublist h.1)

theorem sized (h : KeysLeave s t) (hs : stationTableSized s) : stationTableSized t := by
  obtain ⟨ways, entries, low, high⟩ := hs
  refine ⟨fun bucket => ?_, ?_, ?_, ?_⟩
  · have fewer := h.1.countP_le (p := fun k => bucketOf k.1 k.2 == bucket)
    rw [← bucketUse_eq, ← bucketUse_eq] at fewer
    exact fewer.trans (ways bucket)
  · have fewer := h.1.length_le
    simp only [keysOf, List.length_map] at fewer
    exact fewer.trans entries
  · rwa [h.2]
  · rwa [h.2]

end KeysLeave

theorem keysLeave_removeEntries (gone : StationEntry → Bool) (s : State) : KeysLeave s (removeEntries gone s) :=
  ⟨List.filter_sublist.map _, rfl⟩

/-- An update of an entry under its key keeps the keys. -/
theorem keysLeave_modEntry (g : SegmentId) (a : StationAddr) (f : StationEntry → StationEntry) (s : State)
    (keeps : ∀ e, (f e).segment = e.segment ∧ (f e).address = e.address) : KeysLeave s (modEntry g a f s) := by
  refine ⟨?_, rfl⟩
  have same : keysOf (modEntry g a f s).stations.entries = keysOf s.stations.entries := by
    simp only [modEntry, modEntries_stations_entries, keysOf, List.map_map]
    refine List.map_congr_left fun e _ => ?_
    simp only [Function.comp_apply]
    split_ifs
    · rw [(keeps e).1, (keeps e).2]
    · rfl
  rw [same]

theorem keysLeave_sweep (s : State) : KeysLeave s (sweep s) := by
  refine ⟨?_, rfl⟩
  have kept (es : List StationEntry) : (keysOf (es.filterMap sweepEntry)).Sublist (keysOf es) := by
    induction es with
    | nil => exact List.Sublist.refl _
    | cons e es ih =>
      cases swept : sweepEntry e with
      | none => simpa [keysOf, List.filterMap_cons, swept] using ih.cons _
      | some x =>
        have key : (x.segment, x.address) = (e.segment, e.address) := by
          obtain ⟨g, a, kind, target, tenant⟩ := e
          match kind with
          | .fixed | .learned true =>
            simp only [sweepEntry, Option.some.injEq] at swept
            rw [← swept]
          | .learned false => simp [sweepEntry] at swept
        have unfolded : keysOf ((e :: es).filterMap sweepEntry) =
            (x.segment, x.address) :: keysOf (es.filterMap sweepEntry) := by
          simp [keysOf, swept]
        rw [unfolded, key]
        exact ih.cons_cons _
  exact kept s.stations.entries

theorem keysLeave_forgetStations (p : Port) (s : State) : KeysLeave s (forgetStations p s) := by
  simp only [forgetStations]
  split
  · exact keysLeave_removeEntries _ s
  · exact KeysLeave.refl s

theorem keysLeave_leaveUp (p : Port) (s : State) : KeysLeave s (leaveUp p s) := by
  simp only [leaveUp]
  repeat' split
  · exact (KeysLeave.of_same (by simp)).trans (keysLeave_removeEntries _ _)
  · exact KeysLeave.of_same (by simp)
  · exact KeysLeave.refl s
  · exact KeysLeave.refl s

/-- R31, R32: a fence takes no key in. -/
theorem keysLeave_fence (p : Port) (cause : FaultCause) (s : State) : KeysLeave s (fence p cause s) := by
  rw [fence_eq]
  have entered : KeysLeave s (fenceLine p (fenceBuffer p (fenceEntered p cause s))) := KeysLeave.of_same (by simp)
  have forgot := entered.trans (keysLeave_forgetStations p _)
  have left := (forgot.trans (KeysLeave.of_same (relieveDeparture_keeps p _).2.1)).trans (keysLeave_leaveUp p _)
  exact left.trans (KeysLeave.of_same (by simp))

/-- R31, R32: a disable takes no key in. -/
theorem keysLeave_disablePort (p : Port) (s : State) : KeysLeave s (disablePort p s) := by
  simp only [disablePort]
  have entered : KeysLeave s (flushPort p (cutReception p none (setLink p .disabled s))).1 :=
    KeysLeave.of_same (by simp)
  have forgot := entered.trans (keysLeave_forgetStations p _)
  have left := (forgot.trans (KeysLeave.of_same (relieveDeparture_keeps p _).2.1)).trans (keysLeave_leaveUp p _)
  exact left.trans (KeysLeave.of_same (by simp))

/-- The keys with a new entry: its key comes in. -/
theorem keysOf_insertEntry (e : StationEntry) (es : List StationEntry) :
    (keysOf (insertEntry e es)).Perm ((e.segment, e.address) :: keysOf es) := by
  induction es with
  | nil => exact List.Perm.refl _
  | cons x es ih =>
    simp only [insertEntry]
    split_ifs
    · exact List.Perm.refl _
    · exact (ih.cons _).trans (List.Perm.swap ..)

/-- An entry of a new key goes to its key's place. -/
theorem pairwise_insertEntry (e : StationEntry) {es : List StationEntry}
    (fresh : (e.segment, e.address) ∉ keysOf es) (sorted : (keysOf es).Pairwise keyLt) :
    (keysOf (insertEntry e es)).Pairwise keyLt := by
  induction es with
  | nil => exact List.pairwise_singleton _ _
  | cons x es ih =>
    obtain ⟨first, later⟩ := List.pairwise_cons.mp sorted
    obtain ⟨other, fresh⟩ := not_or.mp (mt List.mem_cons.mpr fresh)
    simp only [insertEntry]
    split_ifs with before
    · rw [keyBefore_iff] at before
      refine List.pairwise_cons.mpr ⟨fun k hk => ?_, sorted⟩
      obtain rfl | hk := List.mem_cons.mp hk
      · exact before
      · have after := first k hk
        simp only [keyLt] at before after ⊢
        obtain h | ⟨h, h'⟩ := before <;> obtain k | ⟨k, k'⟩ := after
        · exact Or.inl (h.trans k)
        · exact Or.inl (k ▸ h)
        · exact Or.inl (h ▸ k)
        · exact Or.inr ⟨h.trans k, h'.trans k'⟩
    · rw [keyBefore_iff] at before
      refine List.pairwise_cons.mpr ⟨fun k hk => ?_, ih fresh later⟩
      obtain rfl | hk := List.mem_cons.mp ((keysOf_insertEntry e es).mem_iff.mp hk)
      · exact keyLt_total other before
      · exact first k hk

/-- Where no entry of a key is found the key is new. -/
theorem findEntry?_none_iff (s : State) (g : SegmentId) (a : StationAddr) :
    findEntry? s g a = none ↔ (g, a) ∉ keysOf s.stations.entries := by
  simp only [findEntry?, List.find?_eq_none, keysOf, List.mem_map, not_exists, not_and, Bool.and_eq_true, beq_iff_eq,
    Prod.mk.injEq]

theorem stationsSorted_placeEntry {e : StationEntry} {s : State} (fresh : findEntry? s e.segment e.address = none)
    (h : stationsSorted s) : stationsSorted (placeEntry e s) :=
  (stationsSorted_iff _).mpr
    (pairwise_insertEntry e ((findEntry?_none_iff s _ _).mp fresh) ((stationsSorted_iff s).mp h))

/-- R18: 1,024 buckets of at most four ways hold at most 4,096 entries. -/
theorem length_le_of_bucketUse {es : List StationEntry} (h : ∀ bucket,
    (keysOf es).countP (fun k => bucketOf k.1 k.2 == bucket) ≤ 4) : es.length ≤ 4096 := by
  have small (k : SegmentId × StationAddr) : bucketOf k.1 k.2 ∈ Finset.range 1024 :=
    Finset.mem_range.mpr (Nat.mod_lt _ (by decide))
  have counted : (keysOf es).length =
      ∑ bucket ∈ Finset.range 1024, (keysOf es).countP fun k => bucketOf k.1 k.2 == bucket := by
    induction keysOf es with
    | nil => simp
    | cons k ks ih =>
      simp only [List.length_cons, List.countP_cons, Finset.sum_add_distrib, ih, beq_iff_eq,
        Finset.sum_ite_eq, small, if_true]
  have bound := Finset.sum_le_card_nsmul (Finset.range 1024) _ 4 fun bucket _ => h bucket
  rw [← counted] at bound
  simpa [keysOf] using bound

/-- R18, R23: an entry placed in a free way. -/
theorem stationTableSized_placeEntry {e : StationEntry} {s : State}
    (free : bucketUse s (bucketOf e.segment e.address) < 4) (h : stationTableSized s) :
    stationTableSized (placeEntry e s) := by
  obtain ⟨ways, -, low, high⟩ := h
  have used (bucket : Nat) : bucketUse (placeEntry e s) bucket ≤ 4 := by
    have one := (keysOf_insertEntry e s.stations.entries).countP_eq (fun k => bucketOf k.1 k.2 == bucket)
    rw [bucketUse_eq, show keysOf (placeEntry e s).stations.entries = keysOf (insertEntry e s.stations.entries) from rfl,
      one, List.countP_cons, ← bucketUse_eq]
    have most := ways bucket
    split_ifs with here
    · rw [beq_iff_eq.mp here] at free
      omega
    · omega
  refine ⟨used, length_le_of_bucketUse fun bucket => ?_, low, high⟩
  rw [← bucketUse_eq]
  exact used bucket

end Sys2Proof.Machine

/-! Operations that keep every port's record and link state: the settling, the notices, the end of a transmission,
a decision and the passing of time. -/

namespace Sys2Proof.Machine

open Sys2Proof Sys2Proof.Safety

theorem Tunes.refl (u : PortUnit) : Tunes u u := ⟨rfl, rfl, le_rfl, le_rfl⟩

theorem Tunes.trans {u v w : PortUnit} (h : Tunes u v) (h' : Tunes v w) : Tunes u w :=
  ⟨h'.config.trans h.config, h'.link.trans h.link, h'.errorCount.trans h.errorCount,
    h'.holddownStep.trans h.holddownStep⟩

/-- From `s` to `t` every port is at most tuned. -/
def TunesAll (s t : State) : Prop := ∀ p : Port, Tunes s.ports[p] t.ports[p]

namespace TunesAll

variable {s t u : State}

theorem trans (h : TunesAll s t) (h' : TunesAll t u) : TunesAll s u := fun p => (h p).trans (h' p)

theorem of_same (h : t.ports = s.ports) : TunesAll s t := by
  intro _
  rw [h]
  exact Tunes.refl _

theorem of_modPort {p : Port} {f : PortUnit → PortUnit} (h : Tunes s.ports[p] (f s.ports[p])) :
    TunesAll s (modPort p f s) := by
  intro q
  by_cases same : q = p
  · subst same
    rw [modPort_self]
    exact h
  · rw [modPort_other same]
    exact Tunes.refl _

/-- An operation that tunes the ports leaves them tuned after others that do. -/
theorem foldl {α : Type} {f : State → α → State} (tunes : ∀ s a, TunesAll s (f s a)) (l : List α) (s : State) :
    TunesAll s (l.foldl f s) :=
  foldl_invariant (P := TunesAll s) (fun t a h => h.trans (tunes t a)) l s fun p => Tunes.refl _

/-- Ports given one by one. -/
theorem of_ofFn {g : Port → PortUnit} (h : t.ports = Vector.ofFn g) (tunes : ∀ p : Port, Tunes s.ports[p] (g p)) :
    TunesAll s t := by
  intro p
  have here : t.ports[p] = g p := by
    rw [h]
    exact Vector.getElem_ofFn p.isLt
  rw [here]
  exact tunes p

end TunesAll

theorem tunesAll_handControl (p : Port) (c : ControlFrame) (s : State) : TunesAll s (handControl p c s) := by
  simp only [handControl]
  split_ifs
  · exact TunesAll.of_modPort ⟨rfl, rfl, le_rfl, le_rfl⟩
  · exact TunesAll.of_same rfl

theorem tunesAll_startPausing (p : Port) (s : State) : TunesAll s (startPausing p s) :=
  (tunesAll_handControl p (.pause (carriedPauseTime s.relief.settings.pauseTime)) s).trans (TunesAll.of_same rfl)

theorem tunesAll_handPacedPort (p : Port) (paced : Bool) (s : State) : TunesAll s (handPacedPort p paced s) := by
  simp only [handPacedPort]
  split_ifs
  · exact TunesAll.of_same rfl
  · split
    · exact (TunesAll.of_same (t := { s with relief := { s.relief with paced := s.relief.paced.set p true } })
        rfl).trans (tunesAll_startPausing p _)
    · exact TunesAll.of_same rfl
    · exact TunesAll.of_same rfl

theorem tunesAll_latchArisen (before s : State) : TunesAll s (latchArisen before s) :=
  TunesAll.of_ofFn rfl fun _ => ⟨rfl, rfl, le_rfl, le_rfl⟩

theorem tunesAll_settle (before s : State) : TunesAll s (settle before s) :=
  (TunesAll.foldl (fun t p => tunesAll_handPacedPort p (pacedNow s p) t) (List.finRange 40) s).trans
    (tunesAll_latchArisen before (handPaced s))

theorem tunesAll_emptyLatched (set : PortSet) (s : State) : TunesAll s (emptyLatched set s) :=
  TunesAll.of_ofFn rfl fun p => by
    split_ifs
    · exact ⟨rfl, rfl, le_rfl, le_rfl⟩
    · exact Tunes.refl _

theorem tunesAll_takeNotice (k : NoticeKind) (s : State) : TunesAll s (takeNotice k s) := by
  have cleared : TunesAll s (modNotices (fun n => n.without k) s) := TunesAll.of_same rfl
  simp only [takeNotice]
  split
  next set _ => exact cleared.trans (tunesAll_emptyLatched set _)
  next => exact cleared

theorem tunesAll_sendNotice (k : NoticeKind) (body : List Byte) (s : State) : TunesAll s (sendNotice k body s) :=
  (tunesAll_takeNotice k s).trans (TunesAll.of_same rfl)

theorem tunesAll_sendWaiting (p : Port) (s : State) : TunesAll s (sendWaiting p s) := by
  have emptied (t : State) :
      TunesAll t (modPort p (fun u => { u with waitingControl := none, waitingBeacon := none }) t) :=
    TunesAll.of_modPort ⟨rfl, rfl, le_rfl, le_rfl⟩
  simp only [sendWaiting]
  split <;> split <;> exact TunesAll.trans (TunesAll.of_same rfl) (emptied _)

theorem tunesAll_completeHead (cls : TrafficClass) (p : Port) (s : State) : TunesAll s (completeHead cls p s) := by
  simp only [completeHead]
  split
  · exact TunesAll.of_same rfl
  next c rest _ =>
    have delivered : TunesAll s (deliverCopy c.frame (modQueue cls p (fun _ => rest) s)) :=
      TunesAll.of_same (by simp)
    have sent := delivered.trans (tunesAll_sendWaiting p _)
    exact sent.trans (TunesAll.of_same (by simp))

theorem tunesAll_sourceCheck (c : Classified) (p : Port) (a : StationAddr) (s : State) :
    TunesAll s (sourceCheck c p a s).1 := by
  have spoofed : TunesAll s (modPort p (fun u => { u with spoof := u.spoof + 1 }) s) :=
    TunesAll.of_modPort ⟨rfl, rfl, le_rfl, le_rfl⟩
  simp only [sourceCheck]
  split_ifs
  · exact TunesAll.of_same rfl
  · split
    · exact TunesAll.of_same rfl
    · split
      · exact TunesAll.of_same (by simp)
      · split <;> split_ifs
        · exact TunesAll.of_same (by simp)
        · exact TunesAll.of_same (by simp)
        · exact TunesAll.of_same rfl
        · exact spoofed

theorem tunesAll_decideFrame (p : Port) (f : DataFrame) (s : State) : TunesAll s (decideFrame p f s) := by
  simp only [decideFrame]
  split
  · exact TunesAll.of_same (by simp)
  next c _ =>
    have checked := tunesAll_sourceCheck c p f.src s
    split_ifs
    · exact checked.trans (TunesAll.of_same (by simp))
    · exact checked.trans (TunesAll.of_same (by simp))

theorem tunesAll_passTicks (n : Nat) (s : State) : TunesAll s (passTicks n s) := by
  have charged : TunesAll s (chargePacing n s) := TunesAll.of_same (by simp)
  have passed (t : State) : TunesAll t (passTimers n t) :=
    TunesAll.of_ofFn (g := fun p => passPort n t.ports[p]) rfl fun _ => ⟨rfl, rfl, le_rfl, le_rfl⟩
  exact charged.trans (passed _)

end Sys2Proof.Machine

/-! The bounds that every step keeps: the relief settings, the link's timing, the results and the pending list of the
Measurement Engine, the order of the Station Table. -/

namespace Sys2Proof.Machine

open Sys2Proof Sys2Proof.Safety

/-! ### Relief settings and the timing of a gap -/

/-- R79, R80: only RELIEF-SET writes the settings, and it checks them. -/
theorem kept_reliefSettled : Kept reliefSettled := by
  constructor
  case restarted =>
    intros
    constructor <;> rfl
  case reliefSet =>
    intro body s h
    simp only [reliefSet]
    split_ifs with fits
    · simpa [reliefSettled] using fits
    · exact h
  all_goals
    intros
    simpa [reliefSettled] using ‹reliefSettled _›

/-- R161: hunting ends the timing with the frame, and the bytes that remain begin it. -/
theorem kept_gapTimed : Kept gapTimed := by
  constructor
  case restarted | left | hunts =>
    intros
    exact ⟨fun _ => rfl, fun _ => rfl⟩
  case remains =>
    intro rx s h
    simp [gapTimed]
  case frees =>
    intro x s h
    simpa [gapTimed, freeSource_eq] using h
  case passes =>
    intro n s h
    simpa [gapTimed, passTicks, passTimers, passElapsed] using h
  all_goals
    intros
    simpa [gapTimed] using ‹gapTimed _›

/-! ### The results of measurements -/

theorem mem_placeResult {r x : MeasureResult} {rs : List MeasureResult} (h : x ∈ placeResult r rs) :
    x = r ∨ x ∈ rs := by
  induction rs with
  | nil => exact Or.inl (List.mem_singleton.mp h)
  | cons y rs ih =>
    simp only [placeResult] at h
    split_ifs at h
    · exact List.mem_cons.mp h
    · exact (List.mem_cons.mp h).imp_right (List.mem_cons_of_mem y)
    · obtain rfl | h := List.mem_cons.mp h
      · exact Or.inr List.mem_cons_self
      · exact (ih h).imp_right (List.mem_cons_of_mem y)

/-- R139: a result goes to its port's place. -/
theorem placeResult_ascending (r : MeasureResult) {rs : List MeasureResult}
    (h : rs.Pairwise fun x y => x.port.val < y.port.val) :
    (placeResult r rs).Pairwise fun x y => x.port.val < y.port.val := by
  induction rs with
  | nil => exact List.pairwise_singleton _ _
  | cons y rs ih =>
    obtain ⟨first, later⟩ := List.pairwise_cons.mp h
    simp only [placeResult]
    split_ifs with before same
    · refine List.pairwise_cons.mpr ⟨fun x hx => ?_, h⟩
      obtain rfl | hx := List.mem_cons.mp hx
      · exact before
      · exact before.trans (first x hx)
    · exact List.pairwise_cons.mpr ⟨fun x hx => same ▸ first x hx, later⟩
    · refine List.pairwise_cons.mpr ⟨fun x hx => ?_, ih later⟩
      obtain rfl | hx := mem_placeResult hx
      · have other : x.port.val ≠ y.port.val := fun eq => same (Fin.ext eq)
        omega
      · exact first x hx

theorem resultsAscending_withdraw (p : Port) {s : State} (h : resultsAscending s) :
    resultsAscending (withdraw p s) := by
  simp only [resultsAscending, withdraw_measureDone]
  split_ifs
  · exact placeResult_ascending _ h
  · exact h

@[simp] theorem takeNotice_measureDone (k : NoticeKind) (s : State) :
    (takeNotice k s).link.notices.measureDone =
      if k = .measureDone then none else s.link.notices.measureDone := by
  simp only [takeNotice]
  cases k
  case portChange => cases s.link.notices.portChange <;> rfl
  all_goals rfl

@[simp] theorem billClose_measureDone (body : List Byte) (s : State) :
    (billClose body s).1.link.notices.measureDone = s.link.notices.measureDone := by
  simp only [billClose, refuse]
  split_ifs <;> simp

@[simp] theorem billStop_measureDone (body : List Byte) (s : State) :
    (billStop body s).1.link.notices.measureDone = s.link.notices.measureDone := by
  simp only [billStop, refuse]
  split_ifs <;> simp

@[simp] theorem billDrain_measureDone (body : List Byte) (s : State) :
    (billDrain body s).1.link.notices.measureDone = s.link.notices.measureDone := by
  simp only [billDrain, refuse]
  split_ifs <;> simp

/-- R139: results are raised in their ports' places, and the notice takes all of them. -/
theorem kept_resultsAscending : Kept resultsAscending := by
  constructor
  case restarted | left =>
    intros
    exact List.Pairwise.nil
  case fences =>
    intro p cause s _ h
    rw [resultsAscending, fence_measureDone]
    exact resultsAscending_withdraw p h
  case disables =>
    intro p pairs s _ _ _ h
    rw [resultsAscending, disablePort_measureDone]
    exact resultsAscending_withdraw p h
  case withdraws =>
    intro p s h
    exact resultsAscending_withdraw p h
  case entersProbing =>
    intro p s _ h
    have withdrawn : resultsAscending (withdraw p (modPort p (fun u => { u with reference := none, qualification := none }) (setLink p .probing s))) :=
      resultsAscending_withdraw p h
    simpa [resultsAscending, enterProbing, fileRecovery] using withdrawn
  case frees =>
    intro x s h
    simpa [resultsAscending, freeSource_eq] using h
  case measured =>
    intro r s h
    exact placeResult_ascending r h
  case notifies =>
    intro k body s h
    simp only [resultsAscending, sendNotice, startSending, modLink_link, takeNotice_measureDone]
    split_ifs
    · exact List.Pairwise.nil
    · exact h
  all_goals
    intros
    simpa [resultsAscending] using ‹resultsAscending _›

/-! ### The pending list of the Measurement Engine -/

/-- R137: an IDLE engine with a request in its list begins it. -/
theorem engineBusy_beginMeasurement (s : State) : engineBusy (beginMeasurement s) := by
  obtain ⟨same, idle⟩ | ⟨i, r, -, ⟨rest, -, begun⟩ | ⟨rest, -, -, begun⟩⟩ := beginMeasurement_cases s
  · rw [same]
    exact idle
  · simp [engineBusy, begun]
  · simp [engineBusy, begun]

/-- The ports of the pending requests. -/
def pendingPorts (s : State) : List Port :=
  (s.measurement.recovery ++ s.measurement.host).map MeasureRequest.port

theorem pendingPorts_beginMeasurement (s : State) : (pendingPorts (beginMeasurement s)).Sublist (pendingPorts s) := by
  simp only [pendingPorts]
  refine List.Sublist.map _ ?_
  obtain ⟨same, -⟩ | ⟨i, r, -, ⟨rest, list, begun⟩ | ⟨rest, empty, list, begun⟩⟩ := beginMeasurement_cases s
  · rw [same]
  · rw [begun, list]
    exact List.sublist_cons_self _ _
  · rw [begun, empty, list]
    exact List.sublist_cons_self _ _

/-- R140: a withdrawal leaves no pending request of the port. -/
theorem pendingPorts_withdraw (p : Port) (s : State) :
    pendingPorts (withdraw p s) = (pendingPorts s).filter (· ≠ p) := by
  simp [pendingPorts, List.filter_map, Function.comp_def]

theorem onePerPort_withdraw (p : Port) {s : State} (h : onePerPort s) : onePerPort (withdraw p s) := by
  have fewer : (pendingPorts (withdraw p s)).Sublist (pendingPorts s) := by
    rw [pendingPorts_withdraw]
    exact List.filter_sublist
  exact h.sublist fewer

/-- R136: a host request joins a list that has none of its port. -/
theorem onePerPort_fileHost (p : Port) {s : State} (free : hasPending s p = false) (h : onePerPort s) :
    onePerPort (fileHost p s) := by
  refine List.Nodup.sublist (pendingPorts_beginMeasurement _) ?_
  have fresh : p ∉ pendingPorts s := by
    intro pending
    obtain ⟨r, filed, rfl⟩ := List.mem_map.mp pending
    simp only [hasPending, Bool.or_eq_false_iff, List.any_eq_false, beq_iff_eq] at free
    obtain filed | filed := List.mem_append.mp filed
    · exact free.1 r filed rfl
    · exact free.2 r filed rfl
  have joined : (pendingPorts s ++ [p]).Nodup :=
    List.nodup_append.mpr ⟨h, List.nodup_singleton p, fun q hq r hr => by
      rw [List.mem_singleton.mp hr]
      exact fun same => fresh (same ▸ hq)⟩
  simpa [pendingPorts] using joined

/-- R120: a recovery request joins its group once the port's others are withdrawn. -/
theorem onePerPort_fileRecovery (p : Port) {s : State} (h : onePerPort s) : onePerPort (fileRecovery p s) := by
  refine List.Nodup.sublist (pendingPorts_beginMeasurement _) ?_
  have others := onePerPort_withdraw p h
  have fresh : p ∉ pendingPorts (withdraw p s) := by
    rw [pendingPorts_withdraw]
    simp
  have joined : (p :: pendingPorts (withdraw p s)).Nodup := List.nodup_cons.mpr ⟨fresh, others⟩
  refine List.Perm.nodup ?_ joined
  simp only [pendingPorts, modPort_measurement, List.append_assoc, List.map_append, List.map_cons, List.map_nil]
  exact (List.perm_middle).symm

/-- R134: where a request is filed or a measurement ends, the engine takes the next one. -/
theorem kept_engineBusy : Kept engineBusy := by
  constructor
  case restarted =>
    intros
    exact fun _ => ⟨rfl, rfl⟩
  case lineMeasure =>
    intro body s h
    simp only [lineMeasure, refuse]
    split
    · exact h
    · split_ifs
      · exact h
      · exact h
      · exact engineBusy_beginMeasurement _
  case lineCalibrate =>
    intro body s h
    simp only [lineCalibrate, refuse]
    split_ifs
    · exact h
    · exact h
    · exact h
  case entersProbing =>
    intros
    exact engineBusy_beginMeasurement _
  case nextMeasured =>
    intros
    exact engineBusy_beginMeasurement _
  case disables | fences | withdraws =>
    intros
    have busy := ‹engineBusy _›
    simp only [engineBusy, disablePort_measurement, fence_measurement, withdraw_measurement, modPort_measurement]
    intro idle
    obtain ⟨recovery, host⟩ := busy idle
    simp [recovery, host]
  case spoils =>
    intro p s h
    simpa [engineBusy, spoilMeasurement] using h
  case passes =>
    intro n s h
    simpa [engineBusy, passTicks, passTimers] using h
  all_goals
    intros
    simpa [engineBusy] using ‹engineBusy _›

/-- R134, R136: LINE-MEASURE is BUSY where the port has a pending request, and PROBING withdraws one. -/
theorem kept_onePerPort : Kept onePerPort := by
  constructor
  case restarted =>
    intros
    exact List.nodup_nil
  case lineMeasure =>
    intro body s h
    simp only [lineMeasure, refuse]
    split
    · exact h
    · split_ifs with _ busy
      · exact h
      · exact h
      · simp only [Bool.or_eq_true, not_or, Bool.not_eq_true] at busy
        exact onePerPort_fileHost _ busy.1 h
  case lineCalibrate =>
    intro body s h
    simp only [lineCalibrate, refuse]
    split_ifs
    · exact h
    · exact h
    · exact h
  case entersProbing =>
    intro p s _ h
    refine onePerPort_fileRecovery p ?_
    simpa [onePerPort] using h
  case nextMeasured =>
    intro s h
    exact h.sublist (pendingPorts_beginMeasurement _)
  case disables | fences | withdraws =>
    intros
    have one := ‹onePerPort _›
    simp only [onePerPort, disablePort_measurement, fence_measurement]
    exact onePerPort_withdraw _ one
  case spoils =>
    intro p s h
    simpa [onePerPort, spoilMeasurement] using h
  case passes =>
    intro n s h
    simpa [onePerPort, passTicks, passTimers] using h
  all_goals
    intros
    simpa [onePerPort] using ‹onePerPort _›

end Sys2Proof.Machine

/-! The bounds that every step keeps: the Station Table. -/

namespace Sys2Proof.Machine

open Sys2Proof Sys2Proof.Safety

theorem keysLeave_segmentDefine (body : List Byte) (s : State) : KeysLeave s (segmentDefine body s).1 := by
  simp only [segmentDefine, refuse]
  split
  next g group owner _ _ _ =>
    simp only [defineSegment, refuse]
    split_ifs
    · exact KeysLeave.refl s
    · split
      · exact KeysLeave.of_same rfl
      · split_ifs
        · exact KeysLeave.refl s
        · exact KeysLeave.refl s
        · exact (KeysLeave.of_same rfl).trans (keysLeave_removeEntries _ (setSegment g _ s))
  next => exact KeysLeave.refl s

theorem keysLeave_segmentRemove (body : List Byte) (s : State) : KeysLeave s (segmentRemove body s).1 := by
  simp only [segmentRemove, refuse]
  split
  · exact KeysLeave.refl s
  · split_ifs
    · exact KeysLeave.refl s
    · exact KeysLeave.refl s
    · exact (keysLeave_removeEntries _ s).trans (KeysLeave.of_same rfl)

theorem keysLeave_stationRemove (body : List Byte) (s : State) : KeysLeave s (stationRemove body s).1 := by
  simp only [stationRemove, refuse]
  split
  · exact KeysLeave.refl s
  · exact keysLeave_removeEntries _ s

theorem keysLeave_stationFlush (body : List Byte) (s : State) : KeysLeave s (stationFlush body s).1 := by
  simp only [stationFlush, refuse]
  split_ifs
  · exact keysLeave_removeEntries _ s
  · split
    · exact keysLeave_removeEntries _ s
    · exact KeysLeave.refl s

theorem keysLeave_passTimers (n : Nat) (s : State) : KeysLeave s (passTimers n s) := ⟨List.Sublist.refl _, rfl⟩

/-- A property that stays where keys leave, and where an entry of a new key is placed in a free way, is kept by the
source check. -/
theorem sourceCheck_of_keys {P : State → Prop} (leave : ∀ (s t : State), P s → KeysLeave s t → P t)
    (place : ∀ {e : StationEntry} {s : State}, findEntry? s e.segment e.address = none →
      bucketUse s (bucketOf e.segment e.address) < 4 → P s → P (placeEntry e s))
    (c : Classified) (p : Port) (a : StationAddr) {s : State} (h : P s) : P (sourceCheck c p a s).1 := by
  simp only [sourceCheck]
  split_ifs
  · exact h
  · split
    · exact h
    next target _ =>
      split
      next unknown =>
        simp only [learn]
        split_ifs with limit full
        · exact leave _ _ h ⟨List.Sublist.refl _, rfl⟩
        · exact leave _ _ h ⟨List.Sublist.refl _, rfl⟩
        · exact place unknown (Nat.lt_of_not_le full) h
      · split <;> split_ifs
        · exact leave _ _ h (keysLeave_modEntry _ _ _ s fun _ => ⟨rfl, rfl⟩)
        · have moved := leave _ _ h (keysLeave_modEntry c.segment a
            (fun e => { e with target := target, kind := .learned true }) s fun _ => ⟨rfl, rfl⟩)
          exact leave _ _ moved ⟨List.Sublist.refl _, rfl⟩
        · exact h
        · exact leave _ _ h (KeysLeave.of_same rfl)

/-- R34: so is it by STATION-ADD. -/
theorem stationAdd_of_keys {P : State → Prop} (leave : ∀ (s t : State), P s → KeysLeave s t → P t)
    (place : ∀ {e : StationEntry} {s : State}, findEntry? s e.segment e.address = none →
      bucketUse s (bucketOf e.segment e.address) < 4 → P s → P (placeEntry e s))
    (body : List Byte) {s : State} (h : P s) : P (stationAdd body s).1 := by
  simp only [stationAdd, refuse]
  split
  next segment target _ _ =>
    split_ifs
    · exact h
    · split
      · exact h
      next passed =>
        simp only [pinStation]
        split
        next unknown =>
          refine place unknown ?_ h
          simp only [stationAddCheck] at passed
          split at passed
          · cases passed
          · split_ifs at passed with bad full
            simpa [unknown] using full
        next =>
          exact leave _ _ h (keysLeave_modEntry _ _ _ s fun _ => ⟨rfl, rfl⟩)
  next => exact h

/-- A property of the keys and the sweep period. -/
theorem kept_of_keys {P : State → Prop} (leave : ∀ (s t : State), P s → KeysLeave s t → P t)
    (place : ∀ {e : StationEntry} {s : State}, findEntry? s e.segment e.address = none →
      bucketUse s (bucketOf e.segment e.address) < 4 → P s → P (placeEntry e s))
    (status : ∀ (body : List Byte) {s : State}, P s → P (stationStatus body s).1)
    (restarted : ∀ record high good out free q, P (State.restarted record high good out free q)) : Kept P := by
  constructor
  case stationStatus => exact status
  case restarted => exact fun _ => restarted
  case stationAdd => exact stationAdd_of_keys leave place
  case segmentDefine => exact fun body s h => leave _ _ h (keysLeave_segmentDefine body s)
  case segmentRemove => exact fun body s h => leave _ _ h (keysLeave_segmentRemove body s)
  case stationRemove => exact fun body s h => leave _ _ h (keysLeave_stationRemove body s)
  case stationFlush => exact fun body s h => leave _ _ h (keysLeave_stationFlush body s)
  case disables =>
    intro p pairs s _ _ _ h
    exact leave _ _ h ((KeysLeave.of_same rfl).trans (keysLeave_disablePort p _))
  case fences => exact fun p cause s _ h => leave _ _ h (keysLeave_fence p cause s)
  case sweeps => exact fun {s} h => leave _ _ h (keysLeave_sweep s)
  case decides =>
    intro p f s _ h
    simp only [decideFrame]
    split
    · exact leave _ _ h (KeysLeave.of_same (by simp))
    next c _ =>
      have checked := sourceCheck_of_keys leave place c p f.src h
      split_ifs
      · exact leave _ _ checked (KeysLeave.of_same (by simp))
      · exact leave _ _ checked (KeysLeave.of_same (by simp))
  case passes =>
    intro n s h
    have same : (chargePacing n s).stations = s.stations := by simp
    exact leave _ _ h ((KeysLeave.of_same same).trans (keysLeave_passTimers n _))
  all_goals
    intros
    have h := ‹P _›
    exact leave _ _ h (KeysLeave.of_same (by simp))

/-- R20: an entry goes to its key's place. -/
theorem kept_stationsSorted : Kept stationsSorted := by
  refine kept_of_keys (fun s t h leaves => leaves.sorted h) (fun fresh _ => stationsSorted_placeEntry fresh) ?_ ?_
  · intro body s h
    simp only [stationStatus, refuse]
    split_ifs
    · exact h
    · exact h
    · exact h
  · intros
    exact List.Pairwise.nil

/-- R18, R19: an entry goes to a free way of its bucket. -/
theorem kept_stationTableSized : Kept stationTableSized := by
  refine kept_of_keys (fun s t h leaves => leaves.sized h) (fun _ free => stationTableSized_placeEntry free) ?_ ?_
  · intro body s h
    simp only [stationStatus, refuse]
    split_ifs with empty range
    · exact h
    · obtain ⟨ways, entries, -, -⟩ := h
      exact ⟨ways, entries, range⟩
    · exact h
  · intros
    exact ⟨fun bucket => Nat.zero_le 4, Nat.zero_le 4096, Nat.le_of_ble_eq_true rfl, Nat.le_of_ble_eq_true rfl⟩

end Sys2Proof.Machine

/-! The bounds that every step keeps: the stored frames and their copies, and the tenants' limits. -/

namespace Sys2Proof.Machine

open Sys2Proof Sys2Proof.Safety

/-! ### Admission (R62 to R65) -/

/-- R65: the record of an admitted frame with `n` copies. -/
def storedFrame (o : Offer) (storage : Storage) (n : Nat) : StoredFrame :=
  { tenant := o.tenant, ingress := o.ingress, cls := o.cls, length := o.data.length,
    cells := cellsOfLength o.data.length, storage := storage, flowHash := o.flowHash,
    copiesRemaining := n, data := o.data }

@[simp] theorem storeFrame_records (o : Offer) (id : Nat) (storage : Storage) (passed : List Port) (s : State) :
    (storeFrame o id storage passed s).buffer.records =
      insertRecord id (storedFrame o storage passed.length) s.buffer.records :=
  foldl_keeps (g := fun t : State => t.buffer.records) (fun _ _ => by simp) _ _

/-- Copies of one record at the tails of queues. -/
theorem copyIds_foldl_append (cls : TrafficClass) (id : Nat) (marked : Port → Bool) (ps : List Port) (s : State) :
    copyIds
        (ps.foldl
          (fun acc p => modQueue cls p (· ++ [{ frame := id, marked := marked p, inTransmission := false }]) acc)
          s).buffer =
      Multiset.replicate ps.length id + copyIds s.buffer := by
  induction ps generalizing s with
  | nil => simp
  | cons p ps ih =>
    rw [List.foldl_cons, ih, copyIds_append, List.length_cons, Multiset.replicate_succ, Multiset.cons_add,
      Multiset.add_cons]

@[simp] theorem storeFrame_copyIds (o : Offer) (id : Nat) (storage : Storage) (passed : List Port) (s : State) :
    copyIds (storeFrame o id storage passed s).buffer = Multiset.replicate passed.length id + copyIds s.buffer :=
  (copyIds_foldl_append o.cls id (isMarked s o.cls) passed _).trans rfl

theorem length_insertRecord (id : Nat) (r : StoredFrame) (rs : List (Nat × StoredFrame)) :
    (insertRecord id r rs).length = rs.length + 1 := by
  induction rs with
  | nil => rfl
  | cons x rs ih =>
    simp only [insertRecord]
    split_ifs
    · rfl
    · rw [List.length_cons, ih, List.length_cons]

/-- R64: the copies that pass are no more than the copy entries left. -/
theorem length_passingCopies (s : State) (cls : TrafficClass) (storage : Storage) (c free : Nat) (ps : List Port) :
    (passingCopies s cls storage c free ps).length ≤ free := by
  induction ps generalizing free with
  | nil => exact Nat.zero_le free
  | cons p ps ih =>
    cases free with
    | zero => exact le_rfl
    | succ free =>
      simp only [passingCopies]
      split_ifs
      · exact Nat.succ_le_succ (ih free)
      · exact ih (free + 1)

/-- R77, R81: the held queues that take copies are evaluated. -/
def evaluateTakers (cls : TrafficClass) (passed : List Port) (s : State) : State :=
  match cls with
  | .held => evaluateAll passed s
  | .bulk => s

/-- R62 to R65: a frame is refused whole, or stored with the copies that pass. -/
theorem admission_cases (o : Offer) (s : State) :
    admission o s = reportAdmission o.tenant o.data.length 0 0 o.copies.length s ∨
      ∃ id storage passed,
        freeRecord s.buffer = some id ∧
          chooseStorage s o.tenant o.cls o.ingress (cellsOfLength o.data.length) = some storage ∧
          passed =
            passingCopies s o.cls storage (cellsOfLength o.data.length) (16384 - entriesInUse s.buffer) o.copies ∧
          passed ≠ [] ∧
          admission o s =
            scheduleAll passed
              (evaluateTakers o.cls passed
                (storeFrame o id storage passed
                  (reportAdmission o.tenant o.data.length passed.length (passed.countP (isMarked s o.cls))
                    (o.copies.length - passed.length) s))) := by
  simp only [admission]
  split
  next id storage free chosen =>
    split_ifs with nothing
    · rw [List.isEmpty_iff.mp nothing]
      exact Or.inl rfl
    · refine Or.inr ⟨id, storage, _, free, chosen, rfl, by simpa using nothing, ?_⟩
      cases o.cls <;> rfl
  next => exact Or.inl rfl

@[simp] theorem evaluateTakers_keeps (cls : TrafficClass) (passed : List Port) (s : State) :
    (evaluateTakers cls passed s).buffer = s.buffer ∧ (evaluateTakers cls passed s).billing = s.billing := by
  cases cls <;> simp [evaluateTakers]

/-- R65: what admission makes of the records, the copies and the meters. -/
theorem admission_buffer (o : Offer) (s : State) :
    ((admission o s).buffer = s.buffer ∧
        (admission o s).billing = (reportAdmission o.tenant o.data.length 0 0 o.copies.length s).billing) ∨
      ∃ id storage passed,
        freeRecord s.buffer = some id ∧
          passed =
            passingCopies s o.cls storage (cellsOfLength o.data.length) (16384 - entriesInUse s.buffer) o.copies ∧
          passed ≠ [] ∧
          (admission o s).buffer.records =
            insertRecord id (storedFrame o storage passed.length) s.buffer.records ∧
          copyIds (admission o s).buffer = Multiset.replicate passed.length id + copyIds s.buffer ∧
          (admission o s).billing =
            (reportAdmission o.tenant o.data.length passed.length (passed.countP (isMarked s o.cls))
              (o.copies.length - passed.length) s).billing := by
  obtain refused | ⟨id, storage, passed, free, -, list, some, stored⟩ := admission_cases o s
  · rw [refused]
    exact Or.inl ⟨by simp, rfl⟩
  · rw [stored]
    exact Or.inr ⟨id, storage, passed, free, list, some, by simp, by simp, by simp⟩

/-- R62, R64: a frame is admitted to a free record and free copy entries. -/
theorem bufferSized_admission (o : Offer) {s : State} (h : bufferSized s) : bufferSized (admission o s) := by
  obtain ⟨records, copies⟩ := h
  obtain ⟨same, -⟩ | ⟨id, storage, passed, free, list, -, inserted, added, -⟩ := admission_buffer o s
  · rw [bufferSized, same]
    exact ⟨records, copies⟩
  · have room : s.buffer.records.length < 8192 := by
      by_contra full
      simp [freeRecord, full] at free
    have few := length_passingCopies s o.cls storage (cellsOfLength o.data.length)
      (16384 - entriesInUse s.buffer) o.copies
    rw [← list] at few
    rw [bufferSized, inserted, length_insertRecord, entriesInUse_eq, added, Multiset.card_add, Multiset.card_replicate,
      ← entriesInUse_eq]
    omega

theorem NoLarger.sized {s t : State} (h : NoLarger s.buffer t.buffer) (hs : bufferSized s) : bufferSized t := by
  obtain ⟨records, copies⟩ := hs
  obtain ⟨fewer, smaller⟩ := h
  rw [bufferSized, entriesInUse_eq]
  rw [entriesInUse_eq] at copies
  exact ⟨fewer.trans records, (Multiset.card_le_card smaller).trans copies⟩

/-- R58, R59: an admission alone brings frames in. -/
theorem kept_bufferSized : Kept bufferSized := by
  have same {s t : State} (h : bufferSized s) (eq : t.buffer = s.buffer) : bufferSized t := by
    rw [bufferSized, eq]
    exact h
  constructor
  case restarted =>
    intros
    simp [bufferSized, State.restarted, Buffer.initial, entriesInUse]
  case disables =>
    intro p pairs s _ _ _ h
    refine NoLarger.sized (noLarger_disablePort p _) ?_
    exact same h (modPort_buffer ..)
  case fences => exact fun p cause s _ h => (noLarger_fence p cause s).sized h
  case schedules => exact fun p s h => (noLarger_schedule p s).sized h
  case completes => exact fun cls p s _ h => (noLarger_completeHead cls p s).sized h
  case decides =>
    intro p f s _ h
    simp only [decideFrame]
    split
    · exact same h (by simp)
    · split_ifs
      · exact same h (by simp)
      · simp only [forward]
        split_ifs
        · exact same h (by simp)
        · exact same h (by simp)
        · exact bufferSized_admission _ (same h (by simp))
  all_goals
    intros
    have h := ‹bufferSized _›
    exact same h (by simp)

/-! ### The tenants (Table 1-2) -/

@[simp] theorem closeEpoch_directory (stop : Bool) (s : State) :
    (closeEpoch stop s).directory = (applyStagedBindings s).directory := by
  simp only [closeEpoch]
  split_ifs <;> simp [applyStagedBindings]

theorem tenantsSized_of_limits {s t : State} (h : tenantsSized s)
    (same : ∀ x : TenantId, t.directory.tenants[x].quotaCells = s.directory.tenants[x].quotaCells ∧
      t.directory.tenants[x].stationLimit = s.directory.tenants[x].stationLimit) : tenantsSized t := by
  intro x
  rw [(same x).1, (same x).2]
  exact h x

theorem tenantsSized_closeEpoch (stop : Bool) {s : State} (h : tenantsSized s) : tenantsSized (closeEpoch stop s) := by
  refine tenantsSized_of_limits h fun x => ?_
  rw [closeEpoch_directory]
  simp [applyStagedBindings]

/-- A tenant's entry replaced. -/
theorem modTenant_tenants (x y : TenantId) (f : Tenant → Tenant) (s : State) :
    (modTenant x f s).directory.tenants[y] =
      if x = y then f s.directory.tenants[x] else s.directory.tenants[y] := by
  simp only [modTenant, updAt]
  split_ifs with same
  · subst same
    exact Vector.getElem_set_self x.isLt
  · exact Vector.getElem_set_ne x.isLt y.isLt fun eq => same (Fin.ext eq)

/-- R2: TENANT-DEFINE checks the limits it writes. -/
theorem kept_tenantsSized : Kept tenantsSized := by
  have same {s t : State} (h : tenantsSized s) (eq : t.directory.tenants = s.directory.tenants) : tenantsSized t := by
    rw [tenantsSized, eq]
    exact h
  constructor
  case restarted =>
    intro _ record high good out free q x
    simp [State.restarted, Directory.initial, Tenant.initial]
  case tenantDefine =>
    intro body s h
    simp only [tenantDefine, refuse]
    split
    · exact h
    next x _ =>
      split_ifs with bad _ _
      · exact h
      · exact h
      all_goals
        intro y
        simp only [openMetersFor_keeps, modTenant_tenants]
        split_ifs
        · simp only [not_or, not_lt] at bad
          exact bad.2
        · exact h y
  case tenantRemove =>
    intro body s h
    simp only [tenantRemove, refuse]
    split
    · exact h
    · split_ifs
      · exact h
      · split
        · exact h
        · simp only [removeTenant]
          split_ifs
          all_goals
            intro y
            simp only [modTenant_tenants]
            split_ifs <;> exact h _
  case tenantBind =>
    intro body s h
    refine same h ?_
    simp only [tenantBind, bindPort, refuse]
    repeat' split
    all_goals rfl
  case segmentDefine =>
    intro body s h
    refine same h ?_
    simp only [segmentDefine, defineSegment, refuse]
    repeat' split
    all_goals rfl
  case segmentRemove =>
    intro body s h
    refine same h ?_
    simp only [segmentRemove, refuse]
    repeat' split
    all_goals rfl
  case billClose =>
    intro body s h
    simp only [billClose, refuse]
    split_ifs
    · exact h
    · exact h
    · exact tenantsSized_closeEpoch _ h
  case billStop =>
    intro body s h
    simp only [billStop, refuse]
    split_ifs
    · exact h
    · exact h
    · exact h
    · exact tenantsSized_closeEpoch _ h
  case billDrain =>
    intro body s h
    simp only [billDrain, refuse]
    split_ifs
    · exact h
    · exact tenantsSized_closeEpoch _ (same h rfl)
    · exact same h rfl
  case ticks =>
    intro s _ h
    simp only [epochTickEvent, expireEpoch]
    split_ifs
    · exact tenantsSized_closeEpoch _ (same h (by simp))
    · exact same h (by simp)
    · exact same h (by simp)
    · exact same h (by simp)
  all_goals
    intros
    have h := ‹tenantsSized _›
    exact same h (by simp)

end Sys2Proof.Machine

/-! The bounds that every step keeps: the Billing Unit. -/

namespace Sys2Proof.Machine

open Sys2Proof Sys2Proof.Safety

/-! ### The Billing Unit apart from its meters -/

/-- The Billing Unit with every meter closed. -/
def bare (b : Billing) : Billing := { b with meters := Vector.replicate 64 none }

@[simp] theorem report_bare (t : TenantId) (f : Meters → Meters) (s : State) :
    bare (report t f s).billing = bare s.billing := by
  simp only [report]
  split_ifs <;> rfl

@[simp] theorem reportDelivered_bare (t : TenantId) (n : Nat) (s : State) :
    bare (reportDelivered t n s).billing = bare s.billing := report_bare ..

@[simp] theorem reportFlushed_bare (t : TenantId) (n : Nat) (s : State) :
    bare (reportFlushed t n s).billing = bare s.billing := report_bare ..

@[simp] theorem reportAdmission_bare (t : TenantId) (l a m r : Nat) (s : State) :
    bare (reportAdmission t l a m r s).billing = bare s.billing := report_bare ..

@[simp] theorem refusePolicy_bare (t : TenantId) (p : Port) (n : Nat) (s : State) :
    bare (refusePolicy t p n s).billing = bare s.billing := report_bare ..

@[simp] theorem refuseUnavailable_bare (t : TenantId) (p : Port) (n : Nat) (s : State) :
    bare (refuseUnavailable t p n s).billing = bare s.billing := report_bare ..

@[simp] theorem chargePacing_bare (n : Nat) (s : State) : bare (chargePacing n s).billing = bare s.billing :=
  foldl_keeps (g := fun t : State => bare t.billing) (fun _ _ => report_bare ..) _ _

@[simp] theorem sampleCells_bare (s : State) : bare (sampleCells s).billing = bare s.billing :=
  foldl_keeps (g := fun t : State => bare t.billing) (fun _ _ => report_bare ..) _ _

@[simp] theorem deliverCopy_bare (id : Nat) (s : State) : bare (deliverCopy id s).billing = bare s.billing := by
  simp only [deliverCopy]
  split <;> simp

@[simp] theorem flushCopy_bare (id : Nat) (s : State) : bare (flushCopy id s).billing = bare s.billing := by
  simp only [flushCopy]
  split <;> simp

@[simp] theorem flushCopies_bare (cs : List CopyEntry) (s : State) :
    bare (flushCopies cs s).billing = bare s.billing :=
  foldl_keeps (g := fun t : State => bare t.billing) (fun _ _ => flushCopy_bare ..) _ _

@[simp] theorem rehomeHeld_bare (p : Port) (cs : List CopyEntry) (s : State) :
    bare (rehomeHeld p cs s).billing = bare s.billing :=
  foldl_keeps (g := fun t : State => bare t.billing) (fun t c => by split <;> simp) _ _

@[simp] theorem flushPort_bare (p : Port) (s : State) : bare (flushPort p s).1.billing = bare s.billing := by
  simp [flushPort]

@[simp] theorem rehomePort_bare (p : Port) (s : State) : bare (rehomePort p s).1.billing = bare s.billing := by
  simp [rehomePort]

@[simp] theorem completeHead_bare (cls : TrafficClass) (p : Port) (s : State) :
    bare (completeHead cls p s).billing = bare s.billing := by
  simp only [completeHead]
  split <;> simp

@[simp] theorem admission_bare (o : Offer) (s : State) : bare (admission o s).billing = bare s.billing := by
  simp only [admission]
  split
  · split_ifs
    · simp
    · cases o.cls <;> simp
  · simp

@[simp] theorem reportRefusals_bare (t : TenantId) (p : Port) (n : Nat) (rs : List RefusalReason) (s : State) :
    bare (reportRefusals t p n rs s).billing = bare s.billing :=
  foldl_keeps (g := fun t : State => bare t.billing) (fun _ r => by cases r <;> simp) _ _

@[simp] theorem forward_bare (c : Classified) (p : Port) (f : DataFrame) (s : State) :
    bare (forward c p f s).billing = bare s.billing := by
  simp only [forward]
  split_ifs <;> simp

@[simp] theorem decideFrame_bare (p : Port) (f : DataFrame) (s : State) :
    bare (decideFrame p f s).billing = bare s.billing := by
  simp only [decideFrame]
  split
  · simp
  · split_ifs <;> simp

@[simp] theorem fenceBuffer_bare (p : Port) (s : State) : bare (fenceBuffer p s).billing = bare s.billing := by
  cases station : isStation p
  · rw [fenceBuffer_of_trunk station]
    simp
  · rw [fenceBuffer_of_station station]
    simp

@[simp] theorem fence_bare (p : Port) (cause : FaultCause) (s : State) :
    bare (fence p cause s).billing = bare s.billing := by
  simp [fence_eq]

@[simp] theorem disablePort_bare (p : Port) (s : State) : bare (disablePort p s).billing = bare s.billing := by
  simp [disablePort]

@[simp] theorem openMetersFor_bare (t : TenantId) (s : State) :
    bare (openMetersFor t s).billing = bare s.billing := by
  simp only [openMetersFor]
  split_ifs <;> rfl

/-! ### Numbers of a body (R170) -/

/-- The number that bytes carry. -/
theorem beNat_lt (bytes : List Byte) : beNat bytes < 256 ^ bytes.length := by
  induction bytes with
  | nil => exact Nat.one_pos
  | cons b bytes ih =>
    rw [beNat_cons, List.length_cons, pow_succ]
    have byte : b.toNat ≤ 255 := Nat.le_of_lt_succ b.isLt
    have scaled := Nat.mul_le_mul_right (256 ^ bytes.length) byte
    omega

/-- A field of `width` bytes. -/
theorem field_lt (body : List Byte) (i width : Nat) : field body i width < 256 ^ width :=
  (beNat_lt _).trans_le (Nat.pow_le_pow_right (by decide) (List.length_take_le ..))

/-! ### A close and a tick -/

/-- R151, step 3: the settings that take effect at a close. -/
@[simp] theorem applyStagedSettings_queue (s : State) : (applyStagedSettings s).billing.queue = s.billing.queue := by
  simp only [applyStagedSettings, modBilling_billing]
  split <;> rfl

/-- R151: the records of a close join the queue. -/
@[simp] theorem closeEpoch_queue (stop : Bool) (s : State) :
    (closeEpoch stop s).billing.queue = s.billing.queue ++ closeRecords s (isFinalClose s stop) := by
  simp only [closeEpoch, raiseEpochClosed_keeps]
  split_ifs
  · simp [stopBilling, applyStagedBindings]
  · simp [openEpoch, applyStagedBindings]

/-- R148: a tick samples before it counts. -/
def sampled (s : State) : State :=
  sampleCells (modBilling (fun b => { b with tickElapsed := b.tickElapsed - b.tickSelect.micros }) s)

theorem sampled_bare (s : State) :
    bare (sampled s).billing = { bare s.billing with
      tickElapsed := s.billing.tickElapsed - s.billing.tickSelect.micros } :=
  sampleCells_bare _

/-- R148: a counted tick. -/
def tickCounted (s : State) : State := modBilling (fun b => { b with count := b.count + 1 }) (sampled s)

theorem epochTickEvent_eq (s : State) :
    epochTickEvent s =
      if countsTick s then
        if s.billing.length ≤ s.billing.count + 1 then expireEpoch (tickCounted s) else tickCounted s
      else sampled s := rfl

theorem tickCounted_bare (s : State) :
    bare (tickCounted s).billing = { bare s.billing with
      tickElapsed := s.billing.tickElapsed - s.billing.tickSelect.micros
      count := s.billing.count + 1 } := by
  have same : bare (tickCounted s).billing =
      { bare (sampled s).billing with count := (bare (sampled s).billing).count + 1 } := rfl
  rw [same, sampled_bare]
  rfl

/-! ### The record queue (R154) -/

/-- R150: a close files its records where there is room. -/
theorem queueSized_closeEpoch (stop : Bool) {s : State} (room : hasRoom s = true)
    (queue : s.billing.queue.length ≤ 256) : (closeEpoch stop s).billing.queue.length ≤ 256 := by
  have places : (definedTenants s).length ≤ 256 - s.billing.queue.length := of_decide_eq_true room
  rw [closeEpoch_queue, List.length_append, closeRecords, List.length_map]
  omega

/-- R4, R5: TENANT-REMOVE files a record where a place is free. -/
theorem queueSized_tenantRemove (body : List Byte) {s : State} (h : s.billing.queue.length ≤ 256) :
    (tenantRemove body s).1.billing.queue.length ≤ 256 := by
  simp only [tenantRemove, refuse]
  split
  · exact h
  next t _ =>
    split_ifs
    · exact h
    · split
      · exact h
      next passed =>
        simp only [removeTenant]
        split_ifs with stopped
        · exact h
        · have free : 256 - s.billing.queue.length ≠ 0 := by
            simp only [tenantRemoveCheck] at passed
            split_ifs at passed with _ _ _ _ full
            exact fun none => full ⟨stopped, none⟩
          simp only [modTenant_keeps, modBilling_billing, List.length_append, List.length_singleton]
          omega

theorem queueSized_passTimers (n : Nat) {s : State} (h : s.billing.queue.length ≤ 256) :
    (passTimers n s).billing.queue.length ≤ 256 := h

theorem queue_of_bare {b b' : Billing} (same : bare b' = bare b) : b'.queue = b.queue := by
  have queues := congrArg Billing.queue same
  exact queues

/-- R150, R154: records go into free places. -/
theorem kept_queueSized : Kept fun s => s.billing.queue.length ≤ 256 := by
  have same {s t : State} (h : s.billing.queue.length ≤ 256) (eq : bare t.billing = bare s.billing) :
      t.billing.queue.length ≤ 256 := by
    rwa [queue_of_bare eq]
  constructor
  case restarted => exact fun _ _ _ _ _ _ _ => Nat.zero_le 256
  case tenantDefine =>
    intro body s h
    refine same h ?_
    simp only [tenantDefine, refuse]
    split
    · rfl
    · split_ifs
      · rfl
      · rfl
      · rfl
      · simp
  case tenantRemove => exact fun body s h => queueSized_tenantRemove body h
  case billStart | billHold | billResume =>
    intro body s h
    simp only [billStart, billHold, billResume, refuse]
    split_ifs <;> exact h
  case billSet =>
    intro body s h
    simp only [billSet, refuse, applySettings, modBilling]
    repeat' split
    all_goals exact h
  case billLock => exact fun _ _ h => h
  case billClose =>
    intro body s h
    simp only [billClose, refuse]
    split_ifs with _ room
    · exact h
    · exact h
    · exact queueSized_closeEpoch false (by simpa using room) h
  case billStop =>
    intro body s h
    simp only [billStop, refuse]
    split_ifs with _ _ room
    · exact h
    · exact h
    · exact h
    · exact queueSized_closeEpoch true (by simpa using room) h
  case billDrain =>
    intro body s h
    simp only [billDrain, refuse]
    have fewer : (s.billing.queue.drop (field body 0 1)).length ≤ 256 := by
      rw [List.length_drop]
      omega
    split_ifs with _ closes
    · exact h
    · simp only [Bool.and_eq_true] at closes
      exact queueSized_closeEpoch false closes.2 fewer
    · exact fewer
  case ticks =>
    intro s _ h
    have sample : (sampled s).billing.queue.length ≤ 256 := by
      have queues := congrArg Billing.queue (sampled_bare s)
      simp only [bare] at queues
      rwa [queues]
    rw [epochTickEvent_eq]
    split_ifs
    · simp only [expireEpoch]
      split_ifs with room
      · exact queueSized_closeEpoch false room sample
      · exact sample
    · exact sample
    · exact sample
  case passes =>
    intro n s h
    exact queueSized_passTimers n (same h (chargePacing_bare n s))
  all_goals
    intros
    have h := ‹List.length _ ≤ 256›
    exact same h (by simp)

/-! ### The epoch (R148, R149) -/

/-- The epoch's length and count within their bounds, of the Billing Unit alone. -/
def epochBounded (b : Billing) : Prop :=
  1 ≤ b.length ∧ b.length ≤ 65535 ∧ (∀ x ∈ b.staged, 1 ≤ x.2 ∧ x.2 ≤ 65535) ∧
    (b.state ≠ .stopped → b.count ≤ b.length ∧ (b.overdue = false → b.count < b.length))

theorem epochSized_iff (s : State) : epochSized s ↔ epochBounded s.billing := Iff.rfl

theorem epochBounded_of_bare {b b' : Billing} (same : bare b' = bare b) (h : epochBounded b) : epochBounded b' := by
  have bareBounded : epochBounded (bare b') := by
    rw [same]
    exact h
  exact bareBounded

/-- R151, step 3: staged settings in range take effect. -/
theorem epochBounded_applyStagedSettings {s : State} (low : 1 ≤ s.billing.length) (high : s.billing.length ≤ 65535)
    (staged : ∀ x ∈ s.billing.staged, 1 ≤ x.2 ∧ x.2 ≤ 65535) :
    1 ≤ (applyStagedSettings s).billing.length ∧ (applyStagedSettings s).billing.length ≤ 65535 ∧
      (applyStagedSettings s).billing.staged = none := by
  simp only [applyStagedSettings, modBilling_billing]
  split
  next select length settings =>
    obtain ⟨least, most⟩ := staged _ settings
    exact ⟨least, most, rfl⟩
  next settings => exact ⟨low, high, settings⟩

/-- R151: the next epoch's count is zero; of a stopped billing it is not bounded. -/
theorem epochBounded_closeEpoch (stop : Bool) {s : State} (low : 1 ≤ s.billing.length)
    (high : s.billing.length ≤ 65535) (staged : ∀ x ∈ s.billing.staged, 1 ≤ x.2 ∧ x.2 ≤ 65535) :
    epochBounded (closeEpoch stop s).billing := by
  obtain ⟨low', high', staged'⟩ := epochBounded_applyStagedSettings
    (s := applyStagedBindings
      (modBilling (fun b => { b with queue := b.queue ++ closeRecords s (isFinalClose s stop) }) s)) low high staged
  have none_staged {b : Billing} (none : b.staged = none) : ∀ x ∈ b.staged, 1 ≤ x.2 ∧ x.2 ≤ 65535 := by
    simp [none]
  simp only [closeEpoch, raiseEpochClosed_keeps]
  split_ifs
  · exact ⟨low', high', none_staged staged', fun running => absurd rfl running⟩
  · exact ⟨low', high', none_staged staged', fun _ => ⟨Nat.zero_le _, fun _ => low'⟩⟩

/-- R149: BILL-SET checks the length, which takes effect with the count at zero. -/
theorem epochBounded_billSet (body : List Byte) {s : State} (h : epochBounded s.billing) :
    epochBounded (billSet body s).1.billing := by
  obtain ⟨low, high, staged, count⟩ := id h
  have most : field body 1 2 ≤ 65535 := Nat.le_of_lt_succ (field_lt body 1 2)
  simp only [billSet, refuse]
  split
  · exact h
  next select _ =>
    split_ifs with zero overdue locked
    · exact h
    · exact h
    · refine ⟨low, high, fun x settings => ?_, count⟩
      obtain rfl : (select, field body 1 2) = x := by simpa using settings
      exact ⟨Nat.one_le_iff_ne_zero.mpr zero, most⟩
    · have least : 1 ≤ field body 1 2 := Nat.one_le_iff_ne_zero.mpr zero
      simp only [applySettings, modBilling_billing]
      split_ifs with stopped
      · exact ⟨least, most, staged, fun running => absurd stopped running⟩
      · exact ⟨least, most, staged, fun _ => ⟨Nat.zero_le _, fun _ => least⟩⟩

/-- R148: one tick. -/
theorem epochBounded_epochTickEvent {s : State} (due : tickDue s = true) (h : epochBounded s.billing) :
    epochBounded (epochTickEvent s).billing := by
  obtain ⟨low, high, staged, count⟩ := id h
  simp only [tickDue, Bool.and_eq_true, bne_iff_ne] at due
  rw [epochTickEvent_eq]
  split_ifs with counts full
  · simp only [countsTick, Bool.and_eq_true, Bool.not_eq_true', beq_iff_eq] at counts
    have below := (count due.1).2 counts.2
    have sameLength := congrArg Billing.length (tickCounted_bare s)
    have sameStaged := congrArg Billing.staged (tickCounted_bare s)
    simp only [bare] at sameLength sameStaged
    simp only [expireEpoch]
    split_ifs
    · exact epochBounded_closeEpoch false (by rwa [sameLength]) (by rwa [sameLength]) (by rwa [sameStaged])
    · have marked : bare (goOverdue (tickCounted s)).billing =
          { bare (tickCounted s).billing with overdue := true } := rfl
      rw [tickCounted_bare] at marked
      exact epochBounded_of_bare (b := { s.billing with
          tickElapsed := s.billing.tickElapsed - s.billing.tickSelect.micros
          count := s.billing.count + 1
          overdue := true }) marked ⟨low, high, staged, fun _ => ⟨below, by simp⟩⟩
  · have short : s.billing.count + 1 < s.billing.length := Nat.lt_of_not_le full
    exact epochBounded_of_bare (b := { s.billing with
        tickElapsed := s.billing.tickElapsed - s.billing.tickSelect.micros
        count := s.billing.count + 1 }) (tickCounted_bare s) ⟨low, high, staged, fun _ => ⟨short.le, fun _ => short⟩⟩
  · exact epochBounded_of_bare
      (b := { s.billing with tickElapsed := s.billing.tickElapsed - s.billing.tickSelect.micros })
      (sampled_bare s) ⟨low, high, staged, count⟩

theorem epochBounded_passTimers (n : Nat) {s : State} (h : epochBounded s.billing) :
    epochBounded (passTimers n s).billing := h

/-- R148, R149: the count goes into the length. -/
theorem kept_epochSized : Kept epochSized := by
  constructor
  case restarted =>
    intros
    exact ⟨Nat.le_of_ble_eq_true rfl, Nat.le_of_ble_eq_true rfl, by simp [State.restarted, Billing.initial],
      fun running => absurd rfl running⟩
  case tenantDefine =>
    intro body s h
    refine epochBounded_of_bare (b := s.billing) ?_ h
    simp only [tenantDefine, refuse]
    split
    · rfl
    · split_ifs
      · rfl
      · rfl
      · rfl
      · simp
  case tenantRemove =>
    intro body s h
    simp only [tenantRemove, refuse]
    split
    · exact h
    · split_ifs
      · exact h
      · split
        · exact h
        · simp only [removeTenant]
          split_ifs <;> exact h
  case billStart =>
    intro body s h
    simp only [billStart, refuse]
    split_ifs
    · exact h
    · obtain ⟨low, high, staged, -⟩ := h
      exact ⟨low, high, staged, fun _ => ⟨Nat.zero_le _, fun _ => low⟩⟩
  case billHold =>
    intro body s h
    simp only [billHold, refuse]
    split_ifs with running
    · obtain ⟨low, high, staged, count⟩ := h
      exact ⟨low, high, staged, fun _ => count (by simp [running])⟩
    · exact h
  case billResume =>
    intro body s h
    simp only [billResume, refuse]
    split_ifs with held
    · obtain ⟨low, high, staged, count⟩ := h
      exact ⟨low, high, staged, fun _ => count (by simp [held])⟩
    · exact h
  case billSet => exact fun body s h => epochBounded_billSet body h
  case billClose =>
    intro body s h
    obtain ⟨low, high, staged, -⟩ := id h
    simp only [billClose, refuse]
    split_ifs
    · exact h
    · exact h
    · exact epochBounded_closeEpoch false low high staged
  case billStop =>
    intro body s h
    obtain ⟨low, high, staged, -⟩ := id h
    simp only [billStop, refuse]
    split_ifs
    · exact h
    · exact h
    · exact h
    · exact epochBounded_closeEpoch true low high staged
  case billDrain =>
    intro body s h
    obtain ⟨low, high, staged, -⟩ := id h
    simp only [billDrain, refuse]
    split_ifs
    · exact h
    · exact epochBounded_closeEpoch false low high staged
    · exact h
  case billLock => exact fun _ _ h => h
  case ticks => exact fun due h => epochBounded_epochTickEvent due h
  case passes =>
    intro n s h
    exact epochBounded_passTimers n (epochBounded_of_bare (chargePacing_bare n s) h)
  all_goals
    intros
    have h := ‹epochSized _›
    exact epochBounded_of_bare (by simp) h

end Sys2Proof.Machine

/-! The bounds that every step keeps: the ports' records and numbers, the link's places and mask, the calibration
offset, the held streaks. -/

namespace Sys2Proof.Machine

open Sys2Proof Sys2Proof.Safety

/-! ### What an operation makes of a port's unit -/

/-- What an operation can make of a port's record, of its being DISABLED, and of its numbers. -/
structure PortStep (p : Port) (u v : PortUnit) : Prop where
  config : ∃ pairs, pairsInRange p pairs = true ∧ v.config = u.config.writeAll pairs
  enabled : v.config.enabled = u.config.enabled ∧ (v.link = .disabled ↔ u.link = .disabled) ∨
    v.config.enabled = (v.link != .disabled)
  errorCount : v.errorCount ≤ max u.errorCount 65535
  holddownStep : v.holddownStep ≤ max u.holddownStep 6

/-- An operation that leaves the record, and a port enabled or DISABLED. -/
theorem PortStep.of_config {p : Port} {u v : PortUnit} (config : v.config = u.config)
    (link : v.link = .disabled ↔ u.link = .disabled) (errorCount : v.errorCount ≤ max u.errorCount 65535)
    (holddownStep : v.holddownStep ≤ max u.holddownStep 6) : PortStep p u v :=
  ⟨⟨[], rfl, config⟩, Or.inl ⟨by rw [config], link⟩, errorCount, holddownStep⟩

theorem PortStep.of_tunes {p : Port} {u v : PortUnit} (h : Tunes u v) : PortStep p u v :=
  PortStep.of_config h.config (by rw [h.link]) (h.errorCount.trans (le_max_left ..))
    (h.holddownStep.trans (le_max_left ..))

theorem PortStep.refl (p : Port) (u : PortUnit) : PortStep p u u := PortStep.of_tunes (Tunes.refl u)

/-- From `s` to `t` every port makes such a step. -/
def PortSteps (s t : State) : Prop := ∀ p : Port, PortStep p s.ports[p] t.ports[p]

namespace PortSteps

variable {s t : State}

theorem of_tunes (h : TunesAll s t) : PortSteps s t := fun p => PortStep.of_tunes (h p)

theorem of_same (h : t.ports = s.ports) : PortSteps s t := of_tunes (TunesAll.of_same h)

theorem of_alters {p : Port} {g : PortUnit → PortUnit} (h : Alters p g s t)
    (step : PortStep p s.ports[p] (g s.ports[p])) : PortSteps s t := by
  intro q
  by_cases same : q = p
  · subst same
    rw [h.self]
    exact step
  · rw [h.other same]
    exact PortStep.refl q _

end PortSteps

theorem portSteps_fence (p : Port) (cause : FaultCause) {s : State}
    (runs : s.ports[p].link = .up ∨ s.ports[p].link = .probing) : PortSteps s (fence p cause s) := by
  obtain ⟨flushed, moved, alters⟩ := alters_fence p cause s
  refine PortSteps.of_alters alters (PortStep.of_config rfl ?_ ?_ ?_)
  · have enabled : s.ports[p].link ≠ .disabled := by
      obtain runs | runs := runs <;> simp [-Fin.getElem_fin, runs]
    simp only [fencedUnit, enabled, iff_false]
    split_ifs <;> simp
  · simp only [fencedUnit]
    split_ifs
    · exact Nat.zero_le _
    · exact le_max_left ..
  · simp only [fencedUnit]
    split_ifs
    · exact le_max_left ..
    · exact (Nat.min_le_left ..).trans (le_max_right ..)

theorem portSteps_enterDown (p : Port) {s : State} (enabled : s.ports[p].link ≠ .disabled) :
    PortSteps s (enterDown p s) :=
  PortSteps.of_alters (alters_enterDown p s)
    (PortStep.of_config rfl (by simpa [downUnit] using enabled) (le_max_left ..) (le_max_left ..))

theorem alters_enterProbing (p : Port) (s : State) :
    ∃ id, Alters p
      (fun u =>
        { u with
          link := .probing, reception := u.reception.map fun r => { r with changed := true }
          reference := none, qualification := none, presentRequest := some id }) s (enterProbing p s) := by
  have left := (alters_setLink p .probing s).trans
    (Alters.of_modPort p (fun u => { u with reference := none, qualification := none }) _)
  have filed (t : State) : ∃ id, Alters p (fun u => { u with presentRequest := some id }) t (fileRecovery p t) :=
    ⟨t.measurement.filed, Alters.keep (Alters.trans (Alters.of_keep (t := withdraw p t) (by simp))
      (Alters.of_modPort p (fun u => { u with presentRequest := some t.measurement.filed }) _)) (by simp [fileRecovery])⟩
  obtain ⟨id, filed⟩ := filed _
  exact ⟨id, (left.trans filed).congr rfl⟩

/-- R118: an enable writes the record and enters DOWN. -/
theorem alters_enablePort (p : Port) (config : PortConfig) (s : State) :
    ∃ busy count, Alters p
      (fun u => downUnit (decide (32 ≤ p.val)) busy
        { u with
          config := config, errorCount := 0, errorWindow := some (msToUs config.errorWindowMs),
          rollingCount := count }) s (enablePort p config s) := by
  have written := Alters.of_modPort p (fun u => { u with config := config }) s
  have counted (t : State) : ∃ count, Alters p (fun u => { u with rollingCount := count }) t
      (if isStation p then t else modPort p (fun u => { u with rollingCount := 0 }) t) := by
    split_ifs
    · exact ⟨t.ports[p].rollingCount, (Alters.of_keep rfl).congr rfl⟩
    · exact ⟨0, Alters.of_modPort p _ t⟩
  obtain ⟨count, counted⟩ := counted (modPort p (fun u => { u with config := config }) s)
  exact ⟨_, count, (((written.trans counted).trans (Alters.of_modPort p _ _)).trans (alters_enterDown p _)).congr rfl⟩

/-- A property of each port's unit. -/
def EveryPort (Q : Port → PortUnit → Prop) (s : State) : Prop := ∀ p : Port, Q p s.ports[p]

/-- A property of each port's unit that the ports' steps keep. -/
theorem kept_of_ports {Q : Port → PortUnit → Prop} (steps : ∀ p u v, PortStep p u v → Q p u → Q p v)
    (initial : ∀ good p, Q p (PortUnit.initial good p)) : Kept (EveryPort Q) := by
  have step (s t : State) (h : EveryPort Q s) (made : PortSteps s t) : EveryPort Q t :=
    fun p => steps p _ _ (made p) (h p)
  constructor
  case restarted =>
    intro _ record high good out free q p
    have unit : (State.restarted record high good out free q).ports[p] = PortUnit.initial good[p] p := by
      simp [State.restarted]
    rw [unit]
    exact initial _ p
  case notifies => exact fun k body s h => step _ _ h (PortSteps.of_tunes (tunesAll_sendNotice k body s))
  case settles => exact fun before s h => step _ _ h (PortSteps.of_tunes (tunesAll_settle before s))
  case completes => exact fun cls p s _ h => step _ _ h (PortSteps.of_tunes (tunesAll_completeHead cls p s))
  case decides => exact fun p f s _ h => step _ _ h (PortSteps.of_tunes (tunesAll_decideFrame p f s))
  case passes => exact fun n s h => step _ _ h (PortSteps.of_tunes (tunesAll_passTicks n s))
  case tunes =>
    intro p f s tunes h
    exact step _ _ h (PortSteps.of_tunes (TunesAll.of_modPort tunes))
  case errorCounted =>
    intro p s h
    exact step _ _ h (PortSteps.of_alters (Alters.of_modPort p _ s)
      (PortStep.of_config rfl Iff.rfl ((Nat.min_le_left ..).trans (le_max_right ..)) (le_max_left ..)))
  case writes =>
    intro p pairs s range enabled h
    refine step _ _ h (PortSteps.of_alters (Alters.of_modPort p _ s) ⟨⟨pairs, range, rfl⟩, ?_, le_max_left .., le_max_left ..⟩)
    exact enabled.imp (fun same => ⟨same, Iff.rfl⟩) id
  case enables =>
    intro p pairs s range disabled enabled h
    obtain ⟨busy, count, alters⟩ := alters_enablePort p (s.ports[p].config.writeAll pairs) s
    exact step _ _ h (PortSteps.of_alters alters
      ⟨⟨pairs, range, rfl⟩, Or.inr enabled, Nat.zero_le _, le_max_left ..⟩)
  case disables =>
    intro p pairs s range _ disabled h
    have alters := (Alters.of_modPort p (fun u => { u with config := u.config.writeAll pairs }) s).trans
      (alters_disablePort p _)
    exact step _ _ h (PortSteps.of_alters alters
      ⟨⟨pairs, range, rfl⟩, Or.inr disabled, Nat.zero_le _, Nat.zero_le _⟩)
  case entersDown => exact fun p s _ enabled h => step _ _ h (portSteps_enterDown p enabled)
  case entersUp =>
    intro p s probing h
    exact step _ _ h (PortSteps.of_alters (alters_enterUp p s)
      (PortStep.of_config rfl (by simp [-Fin.getElem_fin, probing]) (le_max_left ..) (le_max_left ..)))
  case entersProbing =>
    intro p s down h
    obtain ⟨id, alters⟩ := alters_enterProbing p s
    exact step _ _ h (PortSteps.of_alters alters
      (PortStep.of_config rfl (by simp [-Fin.getElem_fin, down]) (le_max_left ..) (le_max_left ..)))
  case fences => exact fun p cause s runs h => step _ _ h (portSteps_fence p cause runs)
  all_goals
    intros
    have h := ‹EveryPort Q _›
    exact step _ _ h (PortSteps.of_same (by simp))

/-! ### The configured records (R98) -/

/-- A record's fields after one is written. -/
theorem configFields_write (c : PortConfig) (f : ConfigField) (v : Nat) :
    configFields (c.write f v) =
      (configFields c).map fun fv => if fv.1 = f then (f, if f = .enabled then yesNo (v == 1) else v) else fv := by
  cases f <;> rfl

/-- Fields in range stay so where pairs in range are written. -/
theorem inRange_writeAll (p : Port) (pairs : List (ConfigField × Nat)) (c : PortConfig)
    (range : pairsInRange p pairs = true)
    (h : ∀ fv ∈ configFields c, fv.1.onPort p = true → fv.1.inRange fv.2 = true) :
    ∀ fv ∈ configFields (c.writeAll pairs), fv.1.onPort p = true → fv.1.inRange fv.2 = true := by
  induction pairs generalizing c with
  | nil => exact h
  | cons pair pairs ih =>
    obtain ⟨f, v⟩ := pair
    simp only [pairsInRange, List.all_cons, Bool.and_eq_true] at range
    obtain ⟨⟨-, fits⟩, range⟩ := range
    refine ih (c.write f v) range ?_
    rw [configFields_write]
    intro fv written has
    obtain ⟨old, listed, rfl⟩ := List.mem_map.mp written
    split_ifs at has ⊢ with same switch
    · subst switch
      cases v == 1 <;> rfl
    · exact fits
    · exact h old listed has

theorem configured_initial (good : Bool) (p : Port) :
    (∀ fv ∈ configFields (PortUnit.initial good p).config, fv.1.onPort p = true → fv.1.inRange fv.2 = true) ∧
      (PortUnit.initial good p).config.enabled = ((PortUnit.initial good p).link != .disabled) := by
  refine ⟨?_, rfl⟩
  revert p
  simp only [PortUnit.initial]
  decide

/-- R98, R100, R101: only pairs in range are written, and `enabled` with the state it names. -/
theorem kept_configured : Kept configured := by
  refine kept_of_ports (Q := fun p u =>
    (∀ fv ∈ configFields u.config, fv.1.onPort p = true → fv.1.inRange fv.2 = true) ∧
      u.config.enabled = (u.link != .disabled)) ?_ configured_initial
  intro p u v step h
  obtain ⟨range, enabled⟩ := h
  obtain ⟨⟨pairs, fits, written⟩, named, -, -⟩ := step
  refine ⟨?_, ?_⟩
  · rw [written]
    exact inRange_writeAll p pairs u.config fits range
  · obtain ⟨same, link⟩ | named := named
    · rw [same, enabled, Bool.eq_iff_iff, bne_iff_ne, bne_iff_ne, ne_eq, ne_eq, link]
    · exact named

/-- R106, R126: the numbers of a port. -/
theorem kept_portNumbers : Kept (EveryPort fun _ u => u.errorCount ≤ 65535 ∧ u.holddownStep ≤ 6) :=
  kept_of_ports
    (fun _ _ _ step h => ⟨step.errorCount.trans (max_le h.1 le_rfl), step.holddownStep.trans (max_le h.2 le_rfl)⟩)
    fun _ _ => ⟨Nat.zero_le _, Nat.zero_le _⟩

/-! ### The link's places and mask, the calibration offset, the held streaks -/

/-- R162, R166: four places, and READY never masked. -/
theorem kept_linkBounded : Kept fun s => s.link.places.length ≤ 4 ∧ s.link.mask.getLsbD 0 = true := by
  constructor
  case restarted | left =>
    intros
    simp [State.restarted, Link.initial]
  case holds =>
    intro m reply s free h
    simpa [holdPlace, Nat.succ_le_iff] using And.intro free h.2
  case frees =>
    intro x s h
    obtain ⟨places, mask⟩ := h
    simp only [modLink_link, freeSource_eq]
    refine ⟨?_, mask⟩
    split_ifs
    · rw [List.length_drop]
      omega
    · exact places
  case noticeMask =>
    intro body s h
    simp only [noticeMask, refuse]
    split_ifs
    · exact h
    · exact ⟨h.1, by simp⟩
  all_goals
    intros
    have h := ‹_ ∧ BitVec.getLsbD _ 0 = true›
    simpa using h

/-- R141: the offset of a LINE-CALIBRATE is checked. -/
theorem kept_offsetBounded : Kept fun s => -31 ≤ s.measurement.offset ∧ s.measurement.offset ≤ 31 := by
  have begun (s : State) : (beginMeasurement s).measurement.offset = s.measurement.offset := by
    simp only [beginMeasurement]
    split <;> rfl
  constructor
  case restarted =>
    intros
    simp [State.restarted, Measurement.initial]
  case lineMeasure =>
    intro body s h
    simp only [lineMeasure, refuse]
    split
    · exact h
    · split_ifs
      · exact h
      · exact h
      · simpa [fileHost, begun] using h
  case lineCalibrate =>
    intro body s h
    simp only [lineCalibrate, refuse]
    split_ifs with outside
    · exact h
    · exact h
    · simpa using outside
  case entersProbing =>
    intro p s _ h
    simpa [enterProbing, fileRecovery, begun] using h
  case nextMeasured =>
    intro s h
    simpa [begun] using h
  case spoils => exact fun _ _ h => h
  case passes =>
    intro n s h
    simpa [passTicks, passTimers] using h
  all_goals
    intros
    have h := ‹-31 ≤ _ ∧ _ ≤ (31 : Int)›
    simpa using h

/-- R67: the scheduler counts a held streak to 8. -/
theorem kept_streaksBounded : Kept fun s => streaksBounded s.buffer := by
  have same {s t : State} (h : streaksBounded s.buffer) (eq : t.buffer = s.buffer) : streaksBounded t.buffer := by
    rw [eq]
    exact h
  constructor
  case restarted =>
    intro _ record high good out free q p
    simp [State.restarted, Buffer.initial]
  case disables =>
    intro p pairs s _ _ _ h
    refine streaksBounded_disablePort p ?_
    exact same h (modPort_buffer ..)
  case fences => exact fun p cause s _ h => streaksBounded_fence p cause h
  case schedules => exact fun p s h => streaksBounded_schedule p h
  case completes => exact fun cls p s _ h => streaksBounded_completeHead cls p h
  case decides =>
    intro p f s _ h
    simp only [decideFrame]
    split
    · exact same h (by simp)
    · split_ifs
      · exact same h (by simp)
      · simp only [forward]
        split_ifs
        · exact same h (by simp)
        · exact same h (by simp)
        · exact streaksBounded_admission _ (same h (by simp))
  all_goals
    intros
    have h := ‹streaksBounded _›
    exact same h (by simp)

/-- The bounds of the whole part, block by block. -/
theorem bounded_iff (s : State) :
    bounded s ↔
      (s.link.places.length ≤ 4 ∧ s.link.mask.getLsbD 0 = true) ∧ s.billing.queue.length ≤ 256 ∧
        (-31 ≤ s.measurement.offset ∧ s.measurement.offset ≤ 31) ∧
          EveryPort (fun _ u => u.errorCount ≤ 65535 ∧ u.holddownStep ≤ 6) s ∧ streaksBounded s.buffer := by
  simp only [bounded, blocksBounded, portBounded, EveryPort, streaksBounded, forall_and]
  tauto

/-- Settles O59, each of the nine from what the operations of a step do to it. -/
theorem everyStepKeepsTheBounds : Obligations.EveryStepKeepsTheBounds := by
  refine ⟨kept_reliefSettled.step, kept_configured.step, ?bounded, kept_stationsSorted.step, kept_onePerPort.step,
    ?tables, kept_engineBusy.step, kept_gapTimed.step, kept_resultsAscending.step⟩
  case bounded =>
    intro s t h answers
    obtain ⟨link, queue, offset, ports, streaks⟩ := (bounded_iff s).mp h
    exact (bounded_iff t).mpr ⟨kept_linkBounded.step s t link answers, kept_queueSized.step s t queue answers,
      kept_offsetBounded.step s t offset answers, kept_portNumbers.step s t ports answers,
      kept_streaksBounded.step s t streaks answers⟩
  case tables =>
    intro s t h answers
    obtain ⟨stations, buffer, tenants, epoch⟩ := h
    exact ⟨kept_stationTableSized.step s t stations answers, kept_bufferSized.step s t buffer answers,
      kept_tenantsSized.step s t tenants answers, kept_epochSized.step s t epoch answers⟩

end Sys2Proof.Machine

/-! The UP memberships of the trunk groups (R50, R52): what each operation of a port makes of them, and that every step
keeps them. -/

namespace Sys2Proof.Machine

open Sys2Proof Sys2Proof.Safety

/-! ### Trunk member sets -/

/-- A trunk port is a member by its bit. -/
theorem inTrunkSet_of_trunk {p : Port} (trunk : isStation p = false) (set : BitVec 8) :
    inTrunkSet set p = set.getLsbD (trunkBit p) := by
  simp [inTrunkSet, trunk]

theorem inTrunkSet_of_station {p : Port} (station : isStation p = true) (set : BitVec 8) :
    inTrunkSet set p = false := by
  simp [inTrunkSet, station]

/-- Trunk ports differ in their bits, which are less than 8. -/
theorem trunkBit_lt (p : Port) : trunkBit p < 8 := by
  have := p.isLt
  simp only [trunkBit]
  omega

theorem trunkBit_inj {p q : Port} (hp : isStation p = false) (hq : isStation q = false) :
    trunkBit q = trunkBit p ↔ q = p := by
  simp only [isStation, decide_eq_false_iff_not, trunkBit] at *
  rw [Fin.ext_iff]
  omega

theorem inTrunkSet_and (x y : BitVec 8) (p : Port) : inTrunkSet (x &&& y) p = (inTrunkSet x p && inTrunkSet y p) := by
  cases station : isStation p <;> simp [inTrunkSet, station]

theorem inTrunkSet_xor (x y : BitVec 8) (p : Port) :
    inTrunkSet (x ^^^ y) p = (inTrunkSet x p ^^ inTrunkSet y p) := by
  cases station : isStation p <;> simp [inTrunkSet, station]

/-- The one bit of a trunk port. -/
theorem bit_getLsbD {p q : Port} (hp : isStation p = false) (hq : isStation q = false) :
    (1#8 <<< trunkBit p).getLsbD (trunkBit q) = decide (q = p) := by
  have same := trunkBit_inj hp hq
  have small := trunkBit_lt q
  have least := trunkBit_lt p
  rw [BitVec.getLsbD_shiftLeft, Bool.eq_iff_iff, decide_eq_true_iff, ← same]
  simp only [small, BitVec.getLsbD_one, Bool.and_eq_true, decide_eq_true_eq, Bool.not_eq_true', decide_eq_false_iff_not,
    true_and]
  omega

/-- R52: a member's bit set. -/
theorem inTrunkSet_joined {p : Port} (trunk : isStation p = false) (up : BitVec 8) (q : Port) :
    inTrunkSet (up ||| (1#8 <<< trunkBit p)) q = (inTrunkSet up q || decide (q = p)) := by
  cases station : isStation q
  · simp only [inTrunkSet_of_trunk station, BitVec.getLsbD_or, bit_getLsbD trunk station]
  · have other : q ≠ p := fun same => by simp [same, trunk] at station
    simp [inTrunkSet_of_station station, other]

/-- R52: a member's bit cleared. -/
theorem inTrunkSet_left {p : Port} (trunk : isStation p = false) (up : BitVec 8) (q : Port) :
    inTrunkSet (up &&& ~~~ (1#8 <<< trunkBit p)) q = (inTrunkSet up q && decide (q ≠ p)) := by
  cases station : isStation q
  · simp only [inTrunkSet_of_trunk station, BitVec.getLsbD_and, BitVec.getLsbD_not, bit_getLsbD trunk station,
      trunkBit_lt, decide_true, Bool.true_and, ne_eq, decide_not]
  · simp [inTrunkSet_of_station station]

/-! ### The groups' tables -/

theorem groupTables_congr {s t : State} (h : t.forwarding = s.forwarding) (g : Group) :
    groupTables t g = groupTables s g := by
  cases g <;> simp only [groupTables, h]

/-- A group's tables replaced. -/
theorem groupTables_modGroup (g h : Group) (f : TrunkGroup → TrunkGroup) (s : State) :
    groupTables (modGroup g f s) h = if h = g then f (groupTables s g) else groupTables s h := by
  cases g <;> cases h <;> rfl

/-- R50: the group that has a port as a member. -/
theorem groupOfPort_eq_some {s : State} {p : Port} {g : Group} (h : groupOfPort s p = some g) :
    isStation p = false ∧ inTrunkSet (groupTables s g).members p = true := by
  have member : inTrunkSet (groupTables s g).members p = true := by
    simp only [groupOfPort] at h
    split_ifs at h with a b
    · obtain rfl := Option.some.inj h
      exact a
    · obtain rfl := Option.some.inj h
      exact b
  refine ⟨?_, member⟩
  cases station : isStation p
  · rfl
  · rw [inTrunkSet_of_station station] at member
    cases member

/-- R50: of groups that share no member, a port is a member of its own alone. -/
theorem not_member_of_ne {s : State} {p : Port} {g : Group}
    (disjoint : s.forwarding.groupA.members &&& s.forwarding.groupB.members = 0) (h : groupOfPort s p ≠ some g) :
    inTrunkSet (groupTables s g).members p = false := by
  have notBoth : inTrunkSet s.forwarding.groupA.members p = true →
      inTrunkSet s.forwarding.groupB.members p = false := by
    intro a
    have both := inTrunkSet_and s.forwarding.groupA.members s.forwarding.groupB.members p
    rw [disjoint, a, Bool.true_and] at both
    rw [← both]
    simp [inTrunkSet]
  simp only [groupOfPort] at h
  cases g with
  | a =>
    split_ifs at h with a b
    · exact absurd rfl h
    · simpa [groupTables] using a
    · simpa [groupTables] using a
  | b =>
    split_ifs at h with a b
    · exact notBoth a
    · exact absurd rfl h
    · simpa [groupTables] using b

/-- A bit that is not set need not be cleared. -/
theorem clear_of_unset {p : Port} {up : BitVec 8} (unset : up.getLsbD (trunkBit p) = false) :
    up &&& ~~~ (1#8 <<< trunkBit p) = up := by
  refine BitVec.eq_of_getLsbD_eq fun i hi => ?_
  rw [BitVec.getLsbD_and, BitVec.getLsbD_not, BitVec.getLsbD_shiftLeft, BitVec.getLsbD_one]
  obtain below | here | above := Nat.lt_trichotomy i (trunkBit p)
  · simp [hi, below]
  · subst here
    rw [unset, Bool.false_and]
  · simp [hi, show i - trunkBit p ≠ 0 by omega]

theorem groupTables_flushTarget (x : Target) (s : State) (g : Group) :
    groupTables (flushTarget x s) g = groupTables s g := rfl

/-- R52: what a port leaves of a group's tables: its bit, where the group is its own. -/
theorem groupTables_leaveUp (p : Port) (s : State) (g : Group) :
    groupTables (leaveUp p s) g =
      if groupOfPort s p = some g then
        { groupTables s g with up := (groupTables s g).up &&& ~~~ (1#8 <<< trunkBit p) }
      else groupTables s g := by
  simp only [leaveUp]
  split
  next x own =>
    simp only [own, Option.some.injEq]
    split_ifs with set emptied same same same
    · rw [groupTables_flushTarget, groupTables_modGroup, if_pos same.symm, same]
    · rw [groupTables_flushTarget, groupTables_modGroup, if_neg (Ne.symm same)]
    · rw [groupTables_modGroup, if_pos same.symm, same]
    · rw [groupTables_modGroup, if_neg (Ne.symm same)]
    · rw [← same, clear_of_unset (Bool.eq_false_iff.mpr set)]
    · rfl
  next stands_out => simp [stands_out]

/-- R52: what a port's entry to UP makes of a group's tables. -/
theorem groupTables_joinUp (p : Port) (s : State) (g : Group) :
    groupTables (joinUp p s) g =
      if groupOfPort s p = some g then
        { groupTables s g with up := (groupTables s g).up ||| (1#8 <<< trunkBit p) }
      else groupTables s g := by
  simp only [joinUp]
  split
  next x own =>
    rw [groupTables_modGroup, own]
    by_cases same : g = x
    · subst same
      simp
    · simp [same, Ne.symm same]
  next stands_out => simp [stands_out]

/-! ### The memberships (R50, R52) -/

/-- The groups share no member, and the UP membership of each holds exactly its members of which `up` holds. -/
def Membership (up : Port → Bool) (s : State) : Prop :=
  s.forwarding.groupA.members &&& s.forwarding.groupB.members = 0 ∧
    ∀ (g : Group) (p : Port),
      inTrunkSet (groupTables s g).up p = (inTrunkSet (groupTables s g).members p && up p)

/-- Whether a port is UP. -/
def isUp (s : State) (p : Port) : Bool := s.ports[p].link == .up

theorem membershipUp_iff (s : State) : membershipUp s ↔ Membership (isUp s) s := Iff.rfl

theorem Membership.congr {up up' : Port → Bool} {s t : State} (h : Membership up s)
    (same : t.forwarding.groupA = s.forwarding.groupA ∧ t.forwarding.groupB = s.forwarding.groupB)
    (ports : ∀ p, up' p = up p) : Membership up' t := by
  have tables (g : Group) : groupTables t g = groupTables s g := by
    cases g
    · exact same.1
    · exact same.2
  refine ⟨?_, fun g p => ?_⟩
  · rw [same.1, same.2]
    exact h.1
  · rw [tables, ports]
    exact h.2 g p

theorem membershipUp_of {up : Port → Bool} {s t : State} (h : Membership up s)
    (same : t.forwarding.groupA = s.forwarding.groupA ∧ t.forwarding.groupB = s.forwarding.groupB)
    (ports : ∀ p, isUp t p = up p) : membershipUp t := h.congr same ports

/-- The members are as they were. -/
theorem disjoint_of_members {s t : State} (same : ∀ g, (groupTables t g).members = (groupTables s g).members)
    (h : s.forwarding.groupA.members &&& s.forwarding.groupB.members = 0) :
    t.forwarding.groupA.members &&& t.forwarding.groupB.members = 0 := by
  have a : t.forwarding.groupA.members = s.forwarding.groupA.members := same .a
  have b : t.forwarding.groupB.members = s.forwarding.groupB.members := same .b
  rw [a, b]
  exact h

/-- R52: a port leaves the membership it stands in. -/
theorem membership_leaveUp (p : Port) {up : Port → Bool} {s : State} (h : Membership up s) :
    Membership (fun q => up q && decide (q ≠ p)) (leaveUp p s) := by
  obtain ⟨disjoint, bits⟩ := h
  refine ⟨disjoint_of_members (fun g => ?_) disjoint, fun g q => ?_⟩
  · rw [groupTables_leaveUp]
    split_ifs <;> rfl
  · rw [groupTables_leaveUp]
    split_ifs with own
    · rw [inTrunkSet_left (groupOfPort_eq_some own).1, bits, Bool.and_assoc]
    · rw [bits]
      by_cases here : q = p
      · subst here
        rw [not_member_of_ne disjoint own, Bool.false_and, Bool.false_and]
      · simp [here]

/-- R52: a port joins the membership of its group. -/
theorem membership_joinUp (p : Port) {up : Port → Bool} {s : State} (h : Membership up s) :
    Membership (fun q => up q || decide (q = p)) (joinUp p s) := by
  obtain ⟨disjoint, bits⟩ := h
  refine ⟨disjoint_of_members (fun g => ?_) disjoint, fun g q => ?_⟩
  · rw [groupTables_joinUp]
    split_ifs <;> rfl
  · rw [groupTables_joinUp]
    split_ifs with own
    · obtain ⟨trunk, member⟩ := groupOfPort_eq_some own
      rw [inTrunkSet_joined trunk, bits]
      by_cases here : q = p
      · subst here
        simp [member]
      · simp [here]
    · rw [bits]
      by_cases here : q = p
      · subst here
        rw [not_member_of_ne disjoint own, Bool.false_and, Bool.false_and]
      · simp [here]

/-- Ports altered at one place. -/
theorem isUp_of_alters {p : Port} {g : PortUnit → PortUnit} {s t : State} (h : Alters p g s t) (q : Port) :
    isUp t q = if q = p then (g s.ports[p]).link == .up else isUp s q := by
  simp only [isUp]
  split_ifs with same
  · rw [same, h.self]
  · rw [h.other same]

theorem isUp_of_tunes {s t : State} (h : TunesAll s t) (p : Port) : isUp t p = isUp s p := by
  simp only [isUp, (h p).link]

theorem groupTables_fence (p : Port) (cause : FaultCause) (s : State) (g : Group) :
    groupTables (fence p cause s) g = groupTables (leaveUp p s) g := by
  have same (x y : State) (eq : y.forwarding = x.forwarding) :
      groupTables (leaveUp p y) g = groupTables (leaveUp p x) g := by
    rw [groupTables_leaveUp, groupTables_leaveUp, groupOfPort_congr eq, groupTables_congr eq]
  calc groupTables (fence p cause s) g
      = groupTables (leaveUp p (relieveDeparture p (forgetStations p
          (fenceLine p (fenceBuffer p (fenceEntered p cause s)))))) g := groupTables_congr (by simp [fence_eq]) g
    _ = groupTables (leaveUp p s) g := same _ _ (by simp)

theorem groupTables_disablePort (p : Port) (s : State) (g : Group) :
    groupTables (disablePort p s) g = groupTables (leaveUp p s) g := by
  have same (x y : State) (eq : y.forwarding = x.forwarding) :
      groupTables (leaveUp p y) g = groupTables (leaveUp p x) g := by
    rw [groupTables_leaveUp, groupTables_leaveUp, groupOfPort_congr eq, groupTables_congr eq]
  calc groupTables (disablePort p s) g
      = groupTables (leaveUp p (relieveDeparture p (forgetStations p
          (flushPort p (cutReception p none (setLink p .disabled s))).1))) g :=
        groupTables_congr (by simp [disablePort]) g
    _ = groupTables (leaveUp p s) g := same _ _ (by simp)

/-- R51: TRUNK-GROUP changes the members of DISABLED ports alone, and shares none with the other group. -/
theorem membershipUp_trunkGroup (body : List Byte) {s : State} (h : membershipUp s) :
    membershipUp (trunkGroup body s).1 := by
  simp only [trunkGroup, refuse]
  split
  · exact h
  next g _ =>
    split_ifs with shared changes
    · exact h
    · exact h
    · obtain ⟨disjoint, bits⟩ := h
      refine ⟨?_, fun x p => ?_⟩
      · have apart := not_not.mp shared
        cases g with
        | a => exact apart
        | b => exact (BitVec.and_comm ..).trans apart
      · simp only [groupTables_modGroup, modGroup_ports]
        split_ifs with named
        · rw [bits]
          subst named
          set members := BitVec.ofNat 8 (field body 1 1)
          cases unchanged : inTrunkSet (members ^^^ (groupTables s x).members) p with
          | false =>
            have same : inTrunkSet members p = inTrunkSet (groupTables s x).members p := by
              simpa [inTrunkSet_xor] using unchanged
            rw [same]
          | true =>
            have listed : p ∈ trunkPorts (members ^^^ (groupTables s x).members) :=
              List.mem_filter.mpr ⟨List.mem_finRange p, unchanged⟩
            have all : ∀ q ∈ trunkPorts (members ^^^ (groupTables s x).members), s.ports[q].link = .disabled := by
              simpa [changesEnabled] using changes
            have down : (s.ports[p].link == LinkState.up) = false := by
              rw [all p listed]
              rfl
            rw [down, Bool.and_false, Bool.and_false]
        · exact bits x p

@[simp] theorem refusePolicy_groups (x : TenantId) (p : Port) (n : Nat) (s : State) :
    (refusePolicy x p n s).forwarding.groupA = s.forwarding.groupA ∧
      (refusePolicy x p n s).forwarding.groupB = s.forwarding.groupB := by
  simp [refusePolicy]

@[simp] theorem refuseUnavailable_groups (x : TenantId) (p : Port) (n : Nat) (s : State) :
    (refuseUnavailable x p n s).forwarding.groupA = s.forwarding.groupA ∧
      (refuseUnavailable x p n s).forwarding.groupB = s.forwarding.groupB := by
  simp [refuseUnavailable]

@[simp] theorem reportRefusals_groups (x : TenantId) (p : Port) (n : Nat) (rs : List RefusalReason) (s : State) :
    (reportRefusals x p n rs s).forwarding.groupA = s.forwarding.groupA ∧
      (reportRefusals x p n rs s).forwarding.groupB = s.forwarding.groupB :=
  ⟨foldl_keeps (g := fun t : State => t.forwarding.groupA) (fun _ r => by cases r <;> simp) _ _,
    foldl_keeps (g := fun t : State => t.forwarding.groupB) (fun _ r => by cases r <;> simp) _ _⟩

/-- R38: a decision counts at the ingress port, and changes no group. -/
theorem decideFrame_groups (p : Port) (f : DataFrame) (s : State) :
    (decideFrame p f s).forwarding.groupA = s.forwarding.groupA ∧
      (decideFrame p f s).forwarding.groupB = s.forwarding.groupB := by
  simp only [decideFrame]
  split
  · simp
  · simp only [forward]
    split_ifs <;> simp [countFiltered]

/-- R52: the groups after an entry to UP. -/
theorem enterUp_forwarding (p : Port) (s : State) : (enterUp p s).forwarding = (joinUp p s).forwarding := by
  rw [enterUp_eq]
  exact (joinUp_forwarding p s).symm

/-- R52: a port that enters UP joins its group's UP membership, and one that leaves UP leaves it. -/
theorem kept_membershipUp : Kept membershipUp := by
  have tuned (s t : State) (h : membershipUp s) (same : t.forwarding = s.forwarding) (tunes : TunesAll s t) :
      membershipUp t := membershipUp_of (up := isUp s) h (by rw [same]; exact ⟨rfl, rfl⟩) (isUp_of_tunes tunes)
  have entered (p : Port) (g : PortUnit → PortUnit) (s t : State) (h : membershipUp s)
      (same : t.forwarding = s.forwarding) (alters : Alters p g s t) (off : s.ports[p].link ≠ .up)
      (stays : (g s.ports[p]).link ≠ .up) : membershipUp t := by
    refine membershipUp_of (up := isUp s) h (by rw [same]; exact ⟨rfl, rfl⟩) fun q => ?_
    rw [isUp_of_alters alters]
    split_ifs with here
    · rw [here, isUp, beq_eq_false_iff_ne.mpr off, beq_eq_false_iff_ne.mpr stays]
    · rfl
  have departed (p : Port) (g : PortUnit → PortUnit) (s t : State) (h : membershipUp s)
      (same : ∀ x, groupTables t x = groupTables (leaveUp p s) x) (alters : Alters p g s t)
      (off : (g s.ports[p]).link ≠ .up) : membershipUp t := by
    refine membershipUp_of (membership_leaveUp p (up := isUp s) h) ⟨same .a, same .b⟩ fun q => ?_
    rw [isUp_of_alters alters]
    by_cases here : q = p
    · rw [if_pos here, beq_eq_false_iff_ne.mpr off]
      simp [here]
    · simp [here]
  constructor
  case restarted =>
    intro _ record high good out free q
    refine ⟨by simp [State.restarted, Forwarding.initial], fun g p => ?_⟩
    have unit : (State.restarted record high good out free q).ports[p].link = .disabled := by
      simp [State.restarted, PortUnit.initial]
    rw [unit]
    cases g <;> simp [groupTables, State.restarted, Forwarding.initial, inTrunkSet]
  case trunkGroup => exact fun body s h => membershipUp_trunkGroup body h
  case notifies => exact fun k body s h => tuned _ _ h (by simp) (tunesAll_sendNotice k body s)
  case settles => exact fun before s h => tuned _ _ h (by simp) (tunesAll_settle before s)
  case completes => exact fun cls p s _ h => tuned _ _ h (by simp) (tunesAll_completeHead cls p s)
  case passes => exact fun n s h => tuned _ _ h (by simp) (tunesAll_passTicks n s)
  case decides =>
    intro p f s _ h
    exact membershipUp_of (up := isUp s) h (decideFrame_groups p f s) (isUp_of_tunes (tunesAll_decideFrame p f s))
  case tunes =>
    intro p f s tunes h
    exact tuned _ _ h rfl (TunesAll.of_modPort tunes)
  case errorCounted =>
    intro p s h
    refine membershipUp_of (up := isUp s) h ⟨rfl, rfl⟩ fun q => ?_
    rw [isUp_of_alters (Alters.of_modPort p _ s)]
    split_ifs with here
    · rw [here, isUp]
    · rfl
  case writes =>
    intro p pairs s _ _ h
    refine membershipUp_of (up := isUp s) h ⟨rfl, rfl⟩ fun q => ?_
    rw [isUp_of_alters (Alters.of_modPort p _ s)]
    split_ifs with here
    · rw [here, isUp]
    · rfl
  case enables =>
    intro p pairs s _ disabled _ h
    obtain ⟨busy, count, alters⟩ := alters_enablePort p (s.ports[p].config.writeAll pairs) s
    exact entered p _ s _ h (by simp) alters (by simp [-Fin.getElem_fin, disabled]) (by simp [downUnit])
  case entersDown =>
    intro p s off _ h
    exact entered p _ s _ h (by simp) (alters_enterDown p s) off (by simp [downUnit])
  case entersProbing =>
    intro p s down h
    obtain ⟨id, alters⟩ := alters_enterProbing p s
    exact entered p _ s _ h (by simp) alters (by simp [-Fin.getElem_fin, down]) (by simp)
  case fences =>
    intro p cause s _ h
    obtain ⟨flushed, moved, alters⟩ := alters_fence p cause s
    refine departed p _ s _ h (groupTables_fence p cause s) alters ?_
    simp only [fencedUnit]
    split_ifs <;> simp
  case disables =>
    intro p pairs s _ _ _ h
    have alters := (Alters.of_modPort p (fun u => { u with config := u.config.writeAll pairs }) s).trans
      (alters_disablePort p _)
    refine departed p _ s _ h (fun g => ?_) alters (by simp)
    rw [groupTables_disablePort, groupTables_leaveUp, groupTables_leaveUp, groupOfPort_congr (modPort_forwarding ..),
      groupTables_congr (modPort_forwarding ..)]
  case entersUp =>
    intro p s _ h
    have joined := enterUp_forwarding p s
    refine membershipUp_of (membership_joinUp p (up := isUp s) h) (by rw [joined]; exact ⟨rfl, rfl⟩) fun q => ?_
    rw [isUp_of_alters (alters_enterUp p s)]
    by_cases here : q = p
    · simp [here]
    · simp [here]
  all_goals
    intros
    have h := ‹membershipUp _›
    exact tuned _ _ h (by simp) (TunesAll.of_same (by simp))

end Sys2Proof.Machine

/-! The paced condition (R85): every step keeps it. -/

namespace Sys2Proof.Machine

open Sys2Proof Sys2Proof.Safety

/-- From `s` to `t` no port changes its link state, and the queues' congestion, the contributor sets and the paced
conditions stay. -/
structure SamePacing (s t : State) : Prop where
  links : ∀ p : Port, t.ports[p].link = s.ports[p].link
  congested : t.relief.congested = s.relief.congested
  contributors : t.relief.contributors = s.relief.contributors
  paced : t.relief.paced = s.relief.paced

theorem pacedNow_congr {s t : State} (links : ∀ p : Port, t.ports[p].link = s.ports[p].link)
    (congested : t.relief.congested = s.relief.congested)
    (contributors : t.relief.contributors = s.relief.contributors) (p : Port) : pacedNow t p = pacedNow s p := by
  simp only [pacedNow, links, congested, contributors]

namespace SamePacing

variable {s t u : State}

theorem refl (s : State) : SamePacing s s := ⟨fun _ => rfl, rfl, rfl, rfl⟩

theorem trans (h : SamePacing s t) (h' : SamePacing t u) : SamePacing s u :=
  ⟨fun p => (h'.links p).trans (h.links p), h'.congested.trans h.congested, h'.contributors.trans h.contributors,
    h'.paced.trans h.paced⟩

theorem of_same (ports : t.ports = s.ports) (relief : t.relief = s.relief) : SamePacing s t :=
  ⟨fun p => by rw [ports], by rw [relief], by rw [relief], by rw [relief]⟩

theorem of_tunes (ports : TunesAll s t) (relief : t.relief = s.relief) : SamePacing s t :=
  ⟨fun p => (ports p).link, by rw [relief], by rw [relief], by rw [relief]⟩

theorem of_modPort {p : Port} {f : PortUnit → PortUnit} (h : (f s.ports[p]).link = s.ports[p].link) :
    SamePacing s (modPort p f s) := by
  refine ⟨fun q => ?_, rfl, rfl, rfl⟩
  by_cases same : q = p
  · rw [same, modPort_self, h]
  · rw [modPort_other same]

theorem pacedRight (same : SamePacing s t) (h : pacedRight s) : pacedRight t := by
  intro p
  rw [same.paced, h p, pacedNow_congr same.links same.congested same.contributors]

end SamePacing

/-! ### The end of an event (R85, R96) -/

@[simp] theorem handControl_relief (p : Port) (c : ControlFrame) (s : State) :
    (handControl p c s).relief = s.relief := by simp

theorem handPacedPort_relief (p : Port) (b : Bool) (s : State) :
    (handPacedPort p b s).relief.paced = s.relief.paced.set p b ∧
      (handPacedPort p b s).relief.congested = s.relief.congested ∧
      (handPacedPort p b s).relief.contributors = s.relief.contributors := by
  simp only [handPacedPort]
  split_ifs with same
  · refine ⟨?_, rfl, rfl⟩
    rw [← same]
    exact (Vector.set_getElem_self _).symm
  · split
    · simp [startPausing]
    · exact ⟨rfl, rfl, rfl⟩
    · exact ⟨rfl, rfl, rfl⟩

/-- The paced conditions of a list of ports are handed, and the congestion stays. -/
theorem foldl_handPacedPort (now : Port → Bool) (l : List Port) (s : State) :
    (∀ p : Port, (l.foldl (fun acc p => handPacedPort p (now p) acc) s).relief.paced[p] =
        if p ∈ l then now p else s.relief.paced[p]) ∧
      (l.foldl (fun acc p => handPacedPort p (now p) acc) s).relief.congested = s.relief.congested ∧
      (l.foldl (fun acc p => handPacedPort p (now p) acc) s).relief.contributors = s.relief.contributors := by
  induction l generalizing s with
  | nil => exact ⟨fun p => by simp, rfl, rfl⟩
  | cons q l ih =>
    obtain ⟨paced, congested, contributors⟩ := handPacedPort_relief q (now q) s
    obtain ⟨pacedRest, congestedRest, contributorsRest⟩ := ih (handPacedPort q (now q) s)
    refine ⟨fun p => ?_, congestedRest.trans congested, contributorsRest.trans contributors⟩
    rw [List.foldl_cons, pacedRest, paced]
    by_cases later : p ∈ l
    · simp [later]
    · by_cases here : p = q
      · subst here
        simp [later]
      · have other : (s.relief.paced.set q (now q))[p] = s.relief.paced[p] :=
          Vector.getElem_set_ne q.isLt p.isLt fun eq => here (Fin.ext eq.symm)
        simp [later, here, other]

theorem handPaced_eq (s : State) :
    handPaced s = (List.finRange 40).foldl (fun acc p => handPacedPort p (pacedNow s p) acc) s := by
  rw [handPaced]

/-- R85, R96: the end of an event establishes every paced condition. -/
theorem pacedRight_settle (before s : State) : pacedRight (settle before s) := by
  obtain ⟨paced, congested, contributors⟩ := foldl_handPacedPort (pacedNow s) (List.finRange 40) s
  intro p
  have relief : (settle before s).relief = (handPaced s).relief := by simp only [settle, latchArisen_keeps]
  rw [handPaced_eq] at relief
  have now : pacedNow (settle before s) p = pacedNow s p := by
    refine pacedNow_congr (fun q => (tunesAll_settle before s q).link) ?_ ?_ p <;> rw [relief]
    · exact congested
    · exact contributors
  rw [now, relief]
  exact (paced p).trans (if_pos (List.mem_finRange p))

theorem samePacing_transmit (s : State) : SamePacing s (transmit s) := by
  simp only [transmit]
  repeat' split
  · exact SamePacing.refl s
  · exact SamePacing.of_same rfl rfl
  · exact SamePacing.of_same rfl rfl
  · exact SamePacing.of_tunes (tunesAll_sendNotice _ _ s) (by simp)
  · exact SamePacing.refl s

theorem pacedRight_transmit {s : State} (h : pacedRight s) : pacedRight (transmit s) :=
  (samePacing_transmit s).pacedRight h

theorem pacedRight_conclude (before s : State) : pacedRight (conclude before s) :=
  pacedRight_transmit (pacedRight_settle before s)

/-! ### The requests -/

theorem pacedRight_setPort (p : Port) (pairs : List (ConfigField × Nat)) {s : State} (h : pacedRight s) :
    pacedRight (setPort p pairs s).1 := by
  simp only [setPort, refuse, configAnswer]
  split_ifs
  · exact h
  · exact h
  · split
    · exact h
    · exact pacedRight_settle s _
  · exact (SamePacing.of_modPort rfl).pacedRight h

theorem pacedRight_adjustApply (p : Port) (pairs : List (ConfigField × Nat)) {s : State} (h : pacedRight s) :
    pacedRight (adjustApply p pairs s) := by
  have written : pacedRight (modPort p (fun u => { u with config := s.ports[p].config.writeAll pairs }) s) :=
    (SamePacing.of_modPort rfl).pacedRight h
  simp only [adjustApply]
  split
  · exact pacedRight_settle s _
  · exact written
  · exact pacedRight_settle s _
  · simp only [restartSilence]
    split_ifs
    · exact (SamePacing.of_modPort rfl).pacedRight written
    · exact written

theorem pacedRight_adjustPort (p : Port) (pairs : List (ConfigField × Nat)) {s : State} (h : pacedRight s) :
    pacedRight (adjustPort p pairs s).1 := by
  simp only [adjustPort, refuse, configAnswer]
  split_ifs
  · exact h
  · exact h
  all_goals
    split
    · exact h
    · exact pacedRight_adjustApply p pairs h

/-- A request establishes the paced conditions, or changes nothing of theirs. -/
theorem pacedRight_handRequest (kind : Byte) (body : List Byte) {s : State} (h : pacedRight s) :
    pacedRight (handRequest kind body s).1 := by
  simp only [handRequest]
  split
  case h_15 =>
    simp only [reliefSet, refuse]
    split_ifs
    · exact (SamePacing.mk (fun _ => rfl) rfl rfl rfl : SamePacing s _).pacedRight h
    · exact h
  case h_17 =>
    simp only [portSet, refuse]
    split
    · exact h
    · exact pacedRight_setPort _ _ h
  case h_18 =>
    simp only [portAdjust, refuse]
    split
    · exact pacedRight_adjustPort _ _ h
    · exact h
  case h_19 =>
    simp only [portQuery, refuse]
    split
    · exact h
    · exact (SamePacing.of_modPort rfl).pacedRight h
  case h_20 =>
    simp only [portRelease, refuse]
    split
    · exact h
    · split_ifs
      · exact pacedRight_settle s _
      · exact h
  case h_21 =>
    simp only [portFaults, refuse]
    split
    · exact h
    · exact (SamePacing.of_modPort rfl).pacedRight h
  all_goals exact (SamePacing.of_same (by simp) (by simp)).pacedRight h

/-! ### The bytes of the link -/

theorem pacedRight_takeFrame (m : Message) {s : State} (h : pacedRight s) : pacedRight (takeFrame m s) := by
  have same {x t : State} (hx : pacedRight x) (ports : t.ports = x.ports) (relief : t.relief = x.relief) :
      pacedRight t := (SamePacing.of_same ports relief).pacedRight hx
  simp only [takeFrame]
  split_ifs
  · exact same h (by simp) (by simp)
  · exact h
  · refine same (x := (serve m.kind m.body s).1) ?_ (by simp) (by simp)
    simp only [serve, refuse]
    split
    · exact h
    · exact h
    · exact pacedRight_handRequest _ _ h
  · exact same h (by simp) (by simp)

theorem pacedRight_gapTimeout {s : State} (h : pacedRight s) : pacedRight (gapTimeout s) :=
  (SamePacing.of_same (by simp) (by simp)).pacedRight h

theorem pacedRight_hunt {s : State} (h : pacedRight s) : pacedRight (hunt s) :=
  (SamePacing.of_same (by simp) (by simp)).pacedRight h

theorem pacedRight_takeLinkEvents (events : List LinkEvent) {s : State} (h : pacedRight s) :
    pacedRight (events.foldl takeLinkEvent s) :=
  foldl_invariant (P := pacedRight)
    (fun t e ht => by
      cases e with
      | frame m => exact pacedRight_transmit (pacedRight_takeFrame m ht)
      | framingError => exact (SamePacing.of_same (by simp [takeLinkEvent]) (by simp [takeLinkEvent])).pacedRight ht)
    events s h

theorem pacedRight_assemble (bytes : List Byte) {s : State} (h : pacedRight s) : pacedRight (assemble bytes s) := by
  have taken := pacedRight_takeLinkEvents (scan (s.link.rx ++ bytes).length (s.link.rx ++ bytes)).1 (pacedRight_hunt h)
  exact (SamePacing.of_same (by simp [assemble]) (by simp [assemble])).pacedRight taken

theorem pacedRight_receiveBytes (bytes : List Byte) {s : State} (h : pacedRight s) :
    pacedRight (receiveBytes bytes s) := by
  simp only [receiveBytes]
  split_ifs
  · exact h
  · exact pacedRight_gapTimeout h
  · exact pacedRight_assemble bytes (pacedRight_gapTimeout h)

theorem pacedRight_frameArrival (m : Message) {s : State} (h : pacedRight s) : pacedRight (frameArrival m s) := by
  simp only [frameArrival]
  split_ifs
  · exact h
  · exact pacedRight_transmit (pacedRight_takeFrame m (pacedRight_hunt (pacedRight_gapTimeout h)))
  · exact pacedRight_assemble _ (pacedRight_gapTimeout h)

/-! ### Restarts, and the events that settle nothing -/

/-- After a restart no port is UP and none is paced. -/
theorem pacedRight_restarted (record : RestartRecord) (high : Bool) (good : Vector Bool 40) (out : List LineOut)
    (free : Nat) (q : List Instr) : pacedRight (State.restarted record high good out free q) := by
  intro p
  simp [pacedNow, State.restarted, PortUnit.initial, Relief.initial, PortSet.empty]

theorem samePacing_arrive (p : Port) (s : State) : SamePacing s (arrive p s) := by
  refine SamePacing.of_modPort ?_
  split_ifs <;> rfl

theorem samePacing_schedule (p : Port) (s : State) : SamePacing s (schedule p s) :=
  SamePacing.of_same (by simp) (by simp)

theorem samePacing_releasePeer (p : Port) (s : State) : SamePacing s (releasePeer p s) := by
  simp only [releasePeer]
  split_ifs
  · exact (SamePacing.of_modPort rfl).trans (samePacing_schedule p _)
  · exact SamePacing.refl s

theorem samePacing_pausePeer (p : Port) (time : BitVec 16) (s : State) : SamePacing s (pausePeer p time s) := by
  simp only [pausePeer]
  split_ifs
  · exact samePacing_releasePeer p s
  · exact SamePacing.of_modPort rfl

theorem samePacing_controlArrival (p : Port) {act : State → State} (acts : ∀ t, SamePacing t (act t)) (s : State) :
    SamePacing s (controlArrival p act s) := by
  simp only [controlArrival]
  split_ifs
  · exact samePacing_arrive p s
  · exact (samePacing_arrive p s).trans (acts _)

theorem samePacing_handBeacon (p : Port) (s : State) : SamePacing s (handBeacon p s) := by
  refine ⟨fun q => ?_, by simp, by simp, by simp⟩
  by_cases same : q = p
  · rw [same, (alters_handBeacon p s).self]
  · rw [(alters_handBeacon p s).other same]

theorem samePacing_endBreak (p : Port) (s : State) : SamePacing s (endBreak p s) := by
  refine ⟨fun q => ?_, by simp, by simp, by simp⟩
  by_cases same : q = p
  · rw [same, (alters_endBreak p s).self]
  · rw [(alters_endBreak p s).other same]

theorem samePacing_raiseLine (p : Port) (s : State) : SamePacing s (raiseLine p s) := by
  have raised : SamePacing s (modPort p (fun u => { u with lineGood := true }) s) := SamePacing.of_modPort rfl
  simp only [raiseLine]
  split_ifs
  · exact raised.trans (SamePacing.of_modPort rfl)
  · exact raised

theorem samePacing_startPausing (p : Port) (s : State) : SamePacing s (startPausing p s) :=
  ⟨fun q => (tunesAll_startPausing p s q).link, by simp [startPausing], by simp [startPausing], by simp [startPausing]⟩

theorem samePacing_endPausing (p : Port) (s : State) : SamePacing s (endPausing p s) :=
  ⟨fun q => (tunesAll_handControl p .release s q).link, by simp [endPausing], by simp [endPausing],
    by simp [endPausing]⟩

theorem samePacing_passTicks (n : Nat) (s : State) : SamePacing s (passTicks n s) := by
  refine ⟨fun p => (tunesAll_passTicks n s p).link, ?_, ?_, ?_⟩ <;> simp [passTicks, passTimers]

/-! ### Every command -/

theorem pacedRight_of_occurs {due : Bool} {s t after : State}
    (answers : (.next (if due then after else s) : Answered) = .next t)
    (keeps : pacedRight after) (h : pacedRight s) : pacedRight t := by
  rw [← Host.Outcome.next.inj answers]
  split_ifs
  · exact keeps
  · exact h

/-- R85: every command keeps each port's paced condition right. -/
theorem pacedRight_exec (c : Instr) {s t : State} (answers : exec c s = .next t) (h : pacedRight s) :
    pacedRight t := by
  cases carried : c.message? with
  | some m =>
    rw [exec_of_frame s carried] at answers
    exact Host.Outcome.next.inj answers ▸ pacedRight_frameArrival m h
  | none =>
    cases c with
    | framingError bytes | byteGapTimeout bytes =>
      exact Host.Outcome.next.inj answers ▸ pacedRight_receiveBytes bytes h
    | frameSendEnd =>
      rw [← Host.Outcome.next.inj answers]
      simp only [endSending]
      repeat' split
      · exact h
      · exact pacedRight_restarted _ _ _ _ _ _
      · exact pacedRight_transmit ((SamePacing.of_same rfl rfl).pacedRight h)
    | powerRestart => exact Host.Outcome.next.inj answers ▸ pacedRight_restarted _ _ _ _ _ _
    | pinRestart =>
      rw [← Host.Outcome.next.inj answers]
      split_ifs
      · exact pacedRight_restarted _ _ _ _ _ _
      · exact h
    | leaveRestart =>
      rw [← Host.Outcome.next.inj answers]
      split_ifs
      · exact pacedRight_transmit ((SamePacing.of_same rfl rfl).pacedRight h)
      · exact h
    | frameReceptionBegin p =>
      exact Host.Outcome.next.inj answers ▸ (SamePacing.of_modPort rfl).pacedRight h
    | dataFrameArrival p f | beaconReceived p n =>
      exact Host.Outcome.next.inj answers ▸ pacedRight_conclude s _
    | transmissionCompletion p =>
      rw [← Host.Outcome.next.inj answers]
      split
      · exact pacedRight_conclude s _
      · exact h
    | pauseFrameReceived p time =>
      exact Host.Outcome.next.inj answers ▸ (samePacing_controlArrival p (samePacing_pausePeer p time) s).pacedRight h
    | releaseFrameReceived p =>
      exact Host.Outcome.next.inj answers ▸ (samePacing_controlArrival p (samePacing_releasePeer p) s).pacedRight h
    | baseTick n => exact Host.Outcome.next.inj answers ▸ (samePacing_passTicks n s).pacedRight h
    | peerPauseExpiry p => exact pacedRight_of_occurs answers ((samePacing_releasePeer p s).pacedRight h) h
    | beaconTimerExpiry p =>
      exact pacedRight_of_occurs answers
        (((samePacing_handBeacon p s).trans (SamePacing.of_modPort rfl)).pacedRight h) h
    | errorWindowEnd p | receivedBreakBegin p | steadyTimerComplete p | flapWindowExpiry p =>
      exact pacedRight_of_occurs answers ((SamePacing.of_modPort rfl).pacedRight h) h
    | silenceTimerExpiry p | quietTimerExpiry p | lineGoodDrop p | qualificationComplete p | receivedBreakEnd p
    | breakDetected p | holddownExpiry p | measurementComplete raw =>
      exact pacedRight_of_occurs answers (pacedRight_conclude s _) h
    | lineGoodRise p => exact pacedRight_of_occurs answers ((samePacing_raiseLine p s).pacedRight h) h
    | breakSendEnd p => exact pacedRight_of_occurs answers ((samePacing_endBreak p s).pacedRight h) h
    | pausingPhaseExpiry p => exact pacedRight_of_occurs answers ((samePacing_endPausing p s).pacedRight h) h
    | releasingPhaseExpiry p => exact pacedRight_of_occurs answers ((samePacing_startPausing p s).pacedRight h) h
    | agingSweep =>
      exact pacedRight_of_occurs answers ((SamePacing.of_same (by simp) (by simp)).pacedRight h) h
    | epochTick | epochExpiry =>
      have ticked : pacedRight (epochTickEvent s) := (SamePacing.of_same (by simp) (by simp)).pacedRight h
      exact pacedRight_of_occurs answers (pacedRight_transmit ticked) h
    | _ => exact absurd carried (by simp [Instr.message?, Instr.requestKind?, Instr.frameParts?])

theorem pacedRight_step (s t : State) (h : pacedRight s) (answers : step s = .next t) : pacedRight t := by
  cases waiting : s.pending with
  | nil =>
    rw [stepTakesTheFrontCommand.2 s waiting] at answers
    exact Host.Outcome.next.inj answers ▸ h
  | cons c rest =>
    rw [stepTakesTheFrontCommand.1 c rest s waiting] at answers
    exact pacedRight_exec c answers ((SamePacing.of_same rfl rfl : SamePacing s { s with pending := rest }).pacedRight h)

/-- Settles O60: the memberships from what the operations of a step do, the paced conditions from the end of each
event, which establishes them. -/
theorem everyStepKeepsMembershipsAndPacing : Obligations.EveryStepKeepsMembershipsAndPacing :=
  ⟨kept_membershipUp.step, pacedRight_step⟩

end Sys2Proof.Machine

/-! The accounts (R144), which the statement as it stands does not carry from step to step; and every invariant after
reset. -/

namespace Sys2Proof.Machine

open Sys2Proof Sys2Proof.Safety

/-- R144: where the buffer and the directory are at their restart values and no meters are open, all is accounted. -/
theorem accounted_of_initial {s : State} (buffer : s.buffer = Buffer.initial)
    (directory : s.directory = Directory.initial) (stopped : s.billing.state = .stopped)
    (closed : s.billing.meters = Vector.replicate 64 none) : accounted s := by
  refine ⟨?_, ?_, ?_, fun t => ?_, fun t m standing => ?_⟩
  · simp [bufferSound, allCopies, buffer, Buffer.initial]
  · simp [directorySound, directory, Directory.initial, Tenant.initial]
  · simp [framesOwned, buffer, Buffer.initial]
  · simp [closed, stopped]
  · simp [closed] at standing

/-! ### An OVERDUE mark on a stopped billing -/

/-- A part after reset whose STOPPED billing is marked OVERDUE: no reachable state, but an accounted one. BILL-DRAIN
then makes the close that an OVERDUE epoch waits for. -/
def overdueStopped : State :=
  { State.reset with
    billing := { Billing.initial with overdue := true }
    pending := [.billDrain 0 [1]] }

theorem accounted_overdueStopped : accounted overdueStopped := accounted_of_initial rfl rfl rfl rfl

theorem hasRoom_of_empty {s : State} (h : s.billing.queue = []) : hasRoom s = true := by
  have few : (definedTenants s).length ≤ 64 := by
    refine (List.length_filter_le _ _).trans ?_
    rw [List.length_finRange]
  simp only [hasRoom, placesNeeded, freePlaces, h, List.length_nil, decide_eq_true_eq]
  omega

/-- R151: a close that is not final opens the defined tenants' meters, whatever the billing state. -/
theorem closeEpoch_opens {s : State} (next : s.billing.epoch ≠ lastEpoch) (t : TenantId)
    (defined : s.directory.tenants[t].defined = true) :
    (closeEpoch false s).billing.meters[t].isSome = true ∧
      (closeEpoch false s).billing.state = s.billing.state := by
  have open_next : isFinalClose s false = false := by simp [isFinalClose, next]
  have settings (u : State) : (applyStagedSettings u).billing.state = u.billing.state := by
    simp only [applyStagedSettings, modBilling_billing]
    split <;> rfl
  simp only [closeEpoch, open_next, raiseEpochClosed_keeps, Bool.false_eq_true, if_false, openEpoch, modBilling_billing,
    settings]
  refine ⟨?_, rfl⟩
  simpa [openedMeters, applyStagedBindings] using defined

/-- R155: a drain that finds room for the close that an OVERDUE mark waits for. -/
theorem billDrain_overdue {body : List Byte} {s : State} {n : Nat} (count : field body 0 1 = n)
    (range : ¬(n = 0 ∨ 9 < n)) (overdue : s.billing.overdue = true)
    (room : hasRoom (modBilling (fun b => { b with queue := b.queue.drop n }) s) = true) :
    billDrain body s =
      (closeEpoch false (modBilling (fun b => { b with queue := b.queue.drop n }) s),
        ⟨.ok, bytesOf 1 (s.billing.queue.take n).length ++
          bytesOf 2 (closeEpoch false (modBilling (fun b => { b with queue := b.queue.drop n }) s)).billing.queue.length ++
          (s.billing.queue.take n).flatMap BillingRecord.bytes⟩) := by
  simp only [billDrain, count, range, overdue, room, Bool.and_self, if_true, if_false]

/-- Such a drain opens meters, whatever the billing state. -/
theorem billDrain_opens {s : State} (overdue : s.billing.overdue = true) (empty : s.billing.queue = [])
    (next : s.billing.epoch ≠ lastEpoch) (t : TenantId) (defined : s.directory.tenants[t].defined = true) :
    (billDrain [1] s).1.billing.meters[t].isSome = true ∧ (billDrain [1] s).1.billing.state = s.billing.state := by
  have room := hasRoom_of_empty (s := modBilling (fun b => { b with queue := b.queue.drop 1 }) s) (by simp [empty])
  rw [billDrain_overdue (n := 1) (by decide) (by decide) overdue room]
  exact closeEpoch_opens (s := modBilling (fun b => { b with queue := b.queue.drop 1 }) s) next t defined

theorem exec_billDrain_one {s : State} (accepts : accepting s) :
    ∃ t, exec (.billDrain 0 [1]) s = .next t ∧ t.billing = (billDrain [1] (hunted s)).1.billing := by
  refine ⟨_, exec_of_accepting (m := ⟨0x36, 0, [1]⟩) rfl accepts rfl, ?_⟩
  simp only [transmit_keeps, modLink_billing]
  rfl

/-- Refutes O58: `accounted` does not say that only a running epoch is OVERDUE. Where a STOPPED billing is marked so,
BILL-DRAIN closes the epoch it finds overdue and opens meters, which `metersOpen` denies a STOPPED billing. -/
theorem not_everyStepKeepsTheAccounts : ¬ Obligations.EveryStepKeepsTheAccounts := by
  intro h
  obtain ⟨t, answers, billing⟩ := exec_billDrain_one (s := { overdueStopped with pending := [] })
    ⟨rfl, rfl, Nat.zero_lt_succ 3, Or.inl rfl⟩
  have step_answers := (stepTakesTheFrontCommand.1 _ [] overdueStopped rfl).trans answers
  obtain ⟨-, -, -, opened, -⟩ := h overdueStopped t accounted_overdueStopped step_answers
  obtain ⟨meters, state⟩ := billDrain_opens (s := hunted { overdueStopped with pending := [] }) rfl rfl (by decide) 0
    accounted_overdueStopped.2.1.1
  have stopped : t.billing.state = .stopped := by rw [billing, state]; rfl
  have denied := opened 0
  rw [billing, meters, ← billing, stopped] at denied
  exact absurd denied (by simp)

/-- Settles O5: a restart has every invariant, and reset is a power restart that has been left. -/
theorem invariantsHoldAfterReset : Obligations.InvariantsHoldAfterReset := by
  have restarted {P : State → Prop} (K : Kept P) :
      P (State.restarted ⟨.power, .unknown, 0⟩ true (Vector.replicate 40 false) [] 0 []) := K.restarted trivial ..
  refine ⟨restarted kept_reliefSettled, restarted kept_configured, restarted kept_membershipUp,
    pacedRight_restarted ⟨.power, .unknown, 0⟩ true (Vector.replicate 40 false) [] 0 [], ?_, restarted kept_stationsSorted, restarted kept_onePerPort,
    accounted_of_initial rfl rfl rfl rfl, ?_, restarted kept_engineBusy, restarted kept_gapTimed,
    restarted kept_resultsAscending⟩
  · exact (bounded_iff _).mpr ⟨restarted kept_linkBounded, restarted kept_queueSized, restarted kept_offsetBounded,
      restarted kept_portNumbers, restarted kept_streaksBounded⟩
  · exact ⟨restarted kept_stationTableSized, restarted kept_bufferSized, restarted kept_tenantsSized,
      restarted kept_epochSized⟩

end Sys2Proof.Machine

/-! The requests to the Tenant Directory (R2 to R14). -/

namespace Sys2Proof.Machine

open Sys2Proof Sys2Proof.Safety

/-! ### Requests and the numbers they name -/

/-- A request is performed with the state and the answer of its owner. -/
theorem exec_of_owner {i : Instr} {m : Message} {s t : State} {a : Answer} (carried : i.message? = some m)
    (accepts : accepting s) (allowed : lengthAllowed? m.kind m.body.length = some true)
    (owner : handRequest m.kind m.body (hunted s) = (t, a)) : exec i s = performed m.kind m.tag a.body t := by
  rw [exec_of_accepting carried accepts allowed, owner]

/-- A request that its owner refuses is refused. -/
theorem exec_of_refusal {i : Instr} {m : Message} {s : State} {st : Status} (carried : i.message? = some m)
    (accepts : accepting s) (allowed : lengthAllowed? m.kind m.body.length = some true)
    (owner : handRequest m.kind m.body (hunted s) = refuse st (hunted s)) : exec i s = refused m.kind m.tag st s := by
  rw [exec_of_accepting carried accepts allowed, owner]
  rfl

theorem tenantOf?_of_val {n : Nat} {t : TenantId} (h : n = t.val) : tenantOf? n = some t := by
  subst h
  simp [tenantOf?]

theorem tenantOf?_of_large {n : Nat} (h : 63 < n) : tenantOf? n = none :=
  dif_neg (by omega)

theorem portOf?_of_val {n : Nat} {p : Port} (h : n = p.val) : portOf? n = some p := by
  subst h
  simp [portOf?]

theorem portOf?_of_large {n : Nat} (h : 39 < n) : portOf? n = none :=
  dif_neg (by omega)

theorem segmentOf?_of_val {n : Nat} {g : SegmentId} (h : n = g.val) (named : g ≠ 0) : segmentOf? n = some g := by
  subst h
  have positive : g.val ≠ 0 := fun zero => named (Fin.ext zero)
  simp [segmentOf?, positive]

theorem segmentOf?_of_bad {n : Nat} (h : n = 0 ∨ 1023 < n) : segmentOf? n = none := by
  obtain rfl | large := h
  · rfl
  · exact dif_neg (by omega)

theorem stationOf?_asPort (q : StationPort) : stationOf? (asPort q) = some q := by
  simp [stationOf?, asPort]

theorem stationOf?_of_trunk {p : Port} (h : 32 ≤ p.val) : stationOf? p = none :=
  dif_neg (by omega)

/-- A vector with one element replaced, written out. -/
theorem updAt_eq_set {α : Type} {n : Nat} (v : Vector α n) (i : Fin n) (f : α → α) : updAt v i f = v.set i (f v[i]) :=
  rfl

/-! ### TENANT-DEFINE and TENANT-REMOVE -/

/-- Settles O13: the checks of its owner, in their order. -/
theorem tenantDefineCreatesOrReplaces : Obligations.TenantDefineCreatesOrReplaces := by
  intro tag body s accepts six
  have served {t : State} {a : Answer} (owner : tenantDefine body (hunted s) = (t, a)) :
      exec (.tenantDefine tag body) s = performed 0x01 tag a.body t :=
    exec_of_owner (m := ⟨0x01, tag, body⟩) rfl accepts (by simp [lengthAllowed?, six]) owner
  have refuses {st : Status} (owner : tenantDefine body (hunted s) = refuse st (hunted s)) :
      exec (.tenantDefine tag body) s = refused 0x01 tag st s :=
    exec_of_refusal (m := ⟨0x01, tag, body⟩) rfl accepts (by simp [lengthAllowed?, six]) owner
  refine ⟨fun bad => ?_, fun t named number => ?_⟩
  · refine refuses ?_
    obtain zero | large := bad
    · simp [tenantDefine, tenantOf?_of_val (t := 0) zero]
    · simp [tenantDefine, tenantOf?_of_large large]
  · simp only
    by_cases range : 16384 < field body 2 2 ∨ 4096 < field body 4 2
    · rw [if_pos range]
      refine refuses ?_
      simp [tenantDefine, tenantOf?_of_val number, range]
    · rw [if_neg range]
      by_cases retired : s.directory.tenants[t].defined = false ∧ s.directory.tenants[t].retired = true
      · rw [if_pos retired]
        refine refuses ?_
        simp only [tenantDefine, tenantOf?_of_val number, named, false_or, range, if_false, hunted_directory, retired,
          Bool.not_false, Bool.and_self, if_true]
      · rw [if_neg retired]
        refine served (a := ⟨.ok, []⟩) ?_
        have free : (!s.directory.tenants[t].defined && s.directory.tenants[t].retired) = false := by
          simpa [-Fin.getElem_fin] using retired
        simp only [tenantDefine, tenantOf?_of_val number, named, false_or, range, if_false, hunted_directory, free,
          Bool.false_eq_true, openMetersFor, modTenant_keeps, hunted_billing]
        by_cases defined : s.directory.tenants[t].defined = true
        · simp only [defined, if_true, true_or]
          rfl
        · by_cases stopped : s.billing.state = .stopped
          · simp only [defined, stopped, if_true, or_true]
            rfl
          · simp only [defined, stopped, if_false, or_false]
            rfl

/-- Settles O14: the checks of its owner, in their order. -/
theorem tenantRemoveWritesItsRecord : Obligations.TenantRemoveWritesItsRecord := by
  intro tag body s accepts one
  have served {t : State} {a : Answer} (owner : tenantRemove body (hunted s) = (t, a)) :
      exec (.tenantRemove tag body) s = performed 0x02 tag a.body t :=
    exec_of_owner (m := ⟨0x02, tag, body⟩) rfl accepts (by simp [lengthAllowed?, one]) owner
  have refuses {st : Status} (owner : tenantRemove body (hunted s) = refuse st (hunted s)) :
      exec (.tenantRemove tag body) s = refused 0x02 tag st s :=
    exec_of_refusal (m := ⟨0x02, tag, body⟩) rfl accepts (by simp [lengthAllowed?, one]) owner
  refine ⟨fun bad => ?_, fun t named number => ?_⟩
  · refine refuses ?_
    obtain zero | large := bad
    · simp [tenantRemove, tenantOf?_of_val (t := 0) zero]
    · simp [tenantRemove, tenantOf?_of_large large]
  · have reached : tenantRemove body (hunted s) =
        match tenantRemoveCheck (hunted s) t with
        | some st => refuse st (hunted s)
        | none => (removeTenant t (hunted s), ⟨.ok, []⟩) := by
      simp only [tenantRemove, tenantOf?_of_val number, named, if_false] <;> rfl
    have refusal {st : Status} (fails : tenantRemoveCheck (hunted s) t = some st) :
        tenantRemove body (hunted s) = refuse st (hunted s) := by rw [reached, fails]
    have footprint : hasFootprint (hunted s) t = true ↔ segmentsOwned s t ≠ 0 ∨ boundPorts s t ≠ 0 := by
      simp [hasFootprint, segmentsOwned, boundPorts]
    have performs (passes : tenantRemoveCheck (hunted s) t = none) :
        tenantRemove body (hunted s) = (removeTenant t (hunted s), ⟨.ok, []⟩) := by rw [reached, passes]
    have checks : tenantRemoveCheck (hunted s) t =
        if !s.directory.tenants[t].defined then some .notFound
        else if s.billing.lock then some .locked
        else if hasFootprint (hunted s) t then some .conflict
        else if 0 < resident s t then some .conflict
        else if s.billing.state ≠ .stopped ∧ freePlaces s = 0 then some .full
        else none := rfl
    simp only
    split_ifs with absent locked owns holds stopped full
    · exact refuses (refusal (by simp only [checks, absent, Bool.not_false, if_true]))
    all_goals have present : s.directory.tenants[t].defined = true := by simpa using absent
    · exact refuses (refusal (by simp [checks, present, locked, -Fin.getElem_fin]))
    · exact refuses (refusal (by simp [checks, present, locked, footprint.mpr owns, -Fin.getElem_fin]))
    · exact refuses (refusal (by simp [checks, present, locked, mt footprint.mp owns, holds, -Fin.getElem_fin]))
    · refine (served (performs ?_)).trans ?_
      · simp [checks, present, locked, mt footprint.mp owns, holds, stopped, -Fin.getElem_fin]
      · simp only [removeTenant, hunted_billing, stopped, if_true]
        rfl
    · have none_free : freePlaces s = 0 := by
        simp only [freePlaces]
        omega
      exact refuses (refusal (by
        simp [checks, present, locked, mt footprint.mp owns, holds, stopped, none_free, -Fin.getElem_fin]))
    · have some_free : freePlaces s ≠ 0 := by
        simp only [freePlaces]
        omega
      refine (served (performs ?_)).trans ?_
      · simp [checks, present, locked, mt footprint.mp owns, holds, some_free, -Fin.getElem_fin]
      · simp only [removeTenant, hunted_billing, stopped, if_false]
        rfl

/-! ### TENANT-QUERY and STATION-STATUS -/

theorem bind_map_eq_join_map {α β : Type} (x : Option (Option α)) (f : α → β) :
    (x.bind fun b => b.map f) = x.join.map f := by
  cases x <;> rfl

/-- R30: the fixed entries are those that are not learned. -/
theorem not_isLearned (e : StationEntry) : (!e.isLearned) = (e.kind == .fixed) := by
  simp [StationEntry.isLearned, bne]

/-- Settles O15: the two reports, each in its layout. -/
theorem tenantQueryAndStationStatusReport : Obligations.TenantQueryAndStationStatusReport := by
  refine ⟨?figures, ?query, ?status⟩
  case figures =>
    intro t s
    exact ⟨rfl, rfl, rfl, rfl, rfl, rfl, rfl⟩
  case query =>
    intro tag body s accepts one
    have served {t : State} {a : Answer} (owner : tenantQuery body (hunted s) = (t, a)) :
        exec (.tenantQuery tag body) s = performed 0x03 tag a.body t :=
      exec_of_owner (m := ⟨0x03, tag, body⟩) rfl accepts (by simp [lengthAllowed?, one]) owner
    have refuses {st : Status} (owner : tenantQuery body (hunted s) = refuse st (hunted s)) :
        exec (.tenantQuery tag body) s = refused 0x03 tag st s :=
      exec_of_refusal (m := ⟨0x03, tag, body⟩) rfl accepts (by simp [lengthAllowed?, one]) owner
    refine ⟨fun large => refuses ?_, fun t number => ?_⟩
    · simp only [tenantQuery, tenantOf?_of_large large]
    · simp only
      split_ifs with absent
      · refine refuses ?_
        simp only [tenantQuery, tenantOf?_of_val number, hunted_directory, absent, Bool.not_false, if_true]
      · have present : s.directory.tenants[t].defined = true := by simpa using absent
        refine (served (t := hunted s) (a := ⟨.ok, _⟩) ?_).trans rfl
        simp only [tenantQuery, tenantOf?_of_val number, hunted_directory, present, Bool.not_true, Bool.false_eq_true,
          if_false, bind_map_eq_join_map]
        rfl
  case status =>
    intro tag body s accepts
    have learned : (fun e : StationEntry => !e.isLearned) = fun e => e.kind == .fixed := funext not_isLearned
    refine ⟨fun empty => ?_, fun two => ?_⟩
    · subst empty
      have served := exec_of_owner (i := .stationStatus tag []) (m := ⟨0x0C, tag, []⟩) rfl accepts rfl
        (t := hunted s) (a := ⟨.ok, stationSummary (hunted s)⟩) rfl
      rw [served]
      simp only [Answer.body, stationSummary, learned]
      rfl
    · have nonempty : body.isEmpty = false := by
        cases body with
        | nil => cases two
        | cons b body => rfl
      have allowed : lengthAllowed? 0x0C body.length = some true := by simp [lengthAllowed?, two]
      split_ifs with range
      · have served := exec_of_owner (i := .stationStatus tag body) (m := ⟨0x0C, tag, body⟩) (s := s) rfl accepts
          allowed (t := setSweepPeriod (field body 0 2) (hunted s))
          (a := ⟨.ok, stationSummary (setSweepPeriod (field body 0 2) (hunted s))⟩)
          (by
            have owner : handRequest 0x0C body (hunted s) = stationStatus body (hunted s) := rfl
            rw [owner]
            simp only [stationStatus, nonempty, range, Bool.false_eq_true, and_self, if_false, if_true])
        rw [served]
        simp only [Answer.body, stationSummary, learned]
        rfl
      · refine exec_of_refusal (m := ⟨0x0C, tag, body⟩) rfl accepts allowed ?_
        have owner : handRequest 0x0C body (hunted s) = stationStatus body (hunted s) := rfl
        rw [owner]
        simp only [stationStatus, nonempty, range, Bool.false_eq_true, if_false]

/-! ### TENANT-BIND -/

/-- Settles O16: the checks of its owner, in their order. -/
theorem tenantBindAppliesOrStages : Obligations.TenantBindAppliesOrStages := by
  intro tag body s accepts four
  have served {t : State} {a : Answer} (owner : tenantBind body (hunted s) = (t, a)) :
      exec (.tenantBind tag body) s = performed 0x04 tag a.body t :=
    exec_of_owner (m := ⟨0x04, tag, body⟩) rfl accepts (by simp [lengthAllowed?, four]) owner
  have refuses {st : Status} (owner : tenantBind body (hunted s) = refuse st (hunted s)) :
      exec (.tenantBind tag body) s = refused 0x04 tag st s :=
    exec_of_refusal (m := ⟨0x04, tag, body⟩) rfl accepts (by simp [lengthAllowed?, four]) owner
  refine ⟨fun bad => refuses ?_, fun q binding port pair => ?_⟩
  · have trunk (p : Port) (large : 31 < p.val) (b : Option Binding) (u : State) : bindPort p b u = refuse .value u := by
      simp only [bindPort, stationOf?_of_trunk large]
    simp only [tenantBind]
    split
    · rfl
    next p named =>
      have number : field body 0 1 = p.val := by
        simp only [portOf?] at named
        split_ifs at named
        rw [← Option.some.inj named]
      obtain large | ⟨named_segment, range⟩ := bad
      · split_ifs
        · exact trunk p (by omega) _ _
        · split
          · exact trunk p (by omega) _ _
          · rfl
      · rw [if_neg named_segment]
        obtain large | large := range
        · rw [tenantOf?_of_large large]
        · rw [segmentOf?_of_bad (Or.inr large)]
          split
          next impossible => cases impossible
          next => rfl
  · have bound : tenantBind body (hunted s) = bindPort (asPort q) binding (hunted s) := by
      simp only [tenantBind, portOf?_of_val (p := asPort q) port]
      obtain ⟨zero, none⟩ | ⟨named, names⟩ := pair
      · rw [if_pos zero, none]
      · rw [if_neg named]
        cases binding with
        | none => cases names
        | some b =>
          obtain ⟨t, g⟩ := b
          obtain ⟨tenant, segment⟩ := Prod.mk.inj (Option.some.inj names)
          have positive : g ≠ 0 := fun zero => named (by rw [← segment, zero]; rfl)
          rw [tenantOf?_of_val tenant.symm, segmentOf?_of_val segment.symm positive]
    have pair_bad : pairBad (hunted s) binding =
        binding.any fun b => b.tenant == 0 || !s.directory.tenants[b.tenant].defined ||
          s.directory.segments[b.segment].map Segment.owner != some b.tenant := by
      cases binding <;> rfl
    rw [← pair_bad]
    simp only [bindPort, stationOf?_asPort, hunted_ports, hunted_billing] at bound
    split_ifs with enabled bad fixed locked
    · exact refuses (bound.trans (if_pos enabled))
    all_goals replace bound := bound.trans (if_neg enabled)
    · exact refuses (bound.trans (if_pos bad))
    all_goals replace bound := bound.trans (if_neg bad)
    · exact refuses (bound.trans (if_pos fixed))
    all_goals replace bound := bound.trans (if_neg fixed)
    · exact served (a := ⟨.staged, []⟩) (bound.trans (if_pos locked))
    · exact served (a := ⟨.ok, []⟩) (bound.trans (if_neg locked))

end Sys2Proof.Machine

/-! The requests to the Segment Map and the Station Table (R8 to R10, R34 to R37), and the sweep (R28). -/

namespace Sys2Proof.Machine

open Sys2Proof Sys2Proof.Safety

/-! ### SEGMENT-DEFINE and SEGMENT-REMOVE -/

theorem trunkGroupOf?_code (group : Option Group) : trunkGroupOf? ((group.map Group.code).getD 0) = some group := by
  obtain _ | _ | _ := group <;> rfl

theorem trunkGroupOf?_of_large {n : Nat} (h : 2 < n) : trunkGroupOf? n = none := by
  simp [trunkGroupOf?, groupOf?, show n ≠ 0 by omega, show n ≠ 1 by omega, show n ≠ 2 by omega]

/-- Settles O17: the checks of its owner, in their order. -/
theorem segmentDefineSetsTheSegment : Obligations.SegmentDefineSetsTheSegment := by
  intro tag body s accepts four
  have served {t : State} {a : Answer} (owner : segmentDefine body (hunted s) = (t, a)) :
      exec (.segmentDefine tag body) s = performed 0x05 tag a.body t :=
    exec_of_owner (m := ⟨0x05, tag, body⟩) rfl accepts (by simp [lengthAllowed?, four]) owner
  have refuses {st : Status} (owner : segmentDefine body (hunted s) = refuse st (hunted s)) :
      exec (.segmentDefine tag body) s = refused 0x05 tag st s :=
    exec_of_refusal (m := ⟨0x05, tag, body⟩) rfl accepts (by simp [lengthAllowed?, four]) owner
  refine ⟨fun bad => refuses ?_, fun g owner group named tenant segment number code => ?_⟩
  · simp only [segmentDefine]
    split
    next g group owner segment code number =>
      have zero : owner = 0 := by
        obtain bad | bad | bad | bad | bad := bad
        · simp [segmentOf?_of_bad (.inl bad)] at segment
        · simp [segmentOf?_of_bad (.inr bad)] at segment
        · simp [trunkGroupOf?_of_large bad] at code
        · rw [bad] at number
          exact (Option.some.inj number).symm
        · simp [tenantOf?_of_large bad] at number
      simp [defineSegment, zero]
    next => rfl
  · have reached : segmentDefine body (hunted s) = defineSegment g owner group (hunted s) := by
      simp only [segmentDefine, segmentOf?_of_val segment named, code, trunkGroupOf?_code, tenantOf?_of_val number]
    refine ⟨fun absent => refuses ?_, fun present => ⟨fun free => ?_, fun x taken => ?_⟩⟩
    · simp [reached, defineSegment, absent, -Fin.getElem_fin]
    · refine served (a := ⟨.ok, []⟩) ?_
      simp only [reached, defineSegment, tenant, hunted_directory, present, Bool.true_eq_false, or_self, if_false, free]
      rfl
    · have reached : segmentDefine body (hunted s) =
          if x.owner ≠ owner then refuse .conflict (hunted s)
          else if x.trunkGroup = group then (hunted s, ⟨.ok, []⟩)
          else (flushSegment g (setSegment g (some { x with trunkGroup := group }) (hunted s)), ⟨.ok, []⟩) := by
        simp only [reached, defineSegment, tenant, hunted_directory, present, Bool.true_eq_false, or_self, if_false,
          taken]
      split_ifs with other same
      · exact refuses (reached.trans (if_pos other))
      · exact served (a := ⟨.ok, []⟩) (reached.trans ((if_neg other).trans (if_pos same)))
      · have mine : x.owner = owner := not_not.mp other
        subst mine
        exact served (a := ⟨.ok, []⟩) (reached.trans ((if_neg other).trans (if_neg same)))

/-- R10, check 3, as the bindings that name the segment. -/
theorem segmentBound_iff (s : State) (g : SegmentId) :
    segmentBound s g = true ↔ ∃ q : StationPort,
      s.directory.applied[q].map Binding.segment = some g ∨
        s.directory.staged[q].join.map Binding.segment = some g := by
  simp [segmentBound, bind_map_eq_join_map, -Fin.getElem_fin, -Option.map_eq_some_iff]

/-- Settles O18: the checks of its owner, in their order. -/
theorem segmentRemoveClearsTheSegment : Obligations.SegmentRemoveClearsTheSegment := by
  intro tag body s accepts two
  have served {t : State} {a : Answer} (owner : segmentRemove body (hunted s) = (t, a)) :
      exec (.segmentRemove tag body) s = performed 0x06 tag a.body t :=
    exec_of_owner (m := ⟨0x06, tag, body⟩) rfl accepts (by simp [lengthAllowed?, two]) owner
  have refuses {st : Status} (owner : segmentRemove body (hunted s) = refuse st (hunted s)) :
      exec (.segmentRemove tag body) s = refused 0x06 tag st s :=
    exec_of_refusal (m := ⟨0x06, tag, body⟩) rfl accepts (by simp [lengthAllowed?, two]) owner
  refine ⟨fun bad => refuses ?_, fun g named number => ?_⟩
  · simp only [segmentRemove, segmentOf?_of_bad bad]
  · have reached : segmentRemove body (hunted s) =
        if s.directory.segments[g].isNone then refuse .notFound (hunted s)
        else if segmentBound (hunted s) g then refuse .conflict (hunted s)
        else (setSegment g none (removeEntries (fun e => e.segment == g) (hunted s)), ⟨.ok, []⟩) := by
      simp only [segmentRemove, segmentOf?_of_val number named, hunted_directory] <;> rfl
    have bound := segmentBound_iff (hunted s) g
    split_ifs with absent binds
    · exact refuses (reached.trans (if_pos (Option.isNone_iff_eq_none.mpr absent)))
    all_goals replace reached := reached.trans (if_neg (mt Option.isNone_iff_eq_none.mp absent))
    · exact refuses (reached.trans (if_pos (bound.mpr binds)))
    · exact served (a := ⟨.ok, []⟩) (reached.trans (if_neg (mt bound.mp binds)))

/-! ### STATION-ADD -/

theorem targetOf?_code (target : Target) : targetOf? target.code = some target := by
  obtain p | _ | _ := target
  · simp [targetOf?, Target.code]
  · rfl
  · rfl

theorem targetOf?_of_bad {n : Nat} (h : 31 < n ∧ n ≠ 64 ∧ n ≠ 65) : targetOf? n = none := by
  obtain ⟨large, notA, notB⟩ := h
  simp [targetOf?, show ¬ n < 32 by omega, notA, notB]

/-- R34, checks 3 and 4: whether a segment may have the target. -/
def targetAllowed (s : State) (x : Segment) (g : SegmentId) : Target → Bool
  | .port q =>
    s.directory.applied[q] == some { tenant := x.owner, segment := g } && s.directory.staged[q] == none
  | .group h => x.trunkGroup == some h

theorem stationAddCheck_of_segment {s : State} {g : SegmentId} {x : Segment} (taken : s.directory.segments[g] = some x)
    (a : StationAddr) (target : Target) :
    stationAddCheck s g a target =
      if targetAllowed s x g target = false then some .value
      else if findEntry? s g a = none ∧ 4 ≤ bucketUse s (bucketOf g a) then some .full
      else none := by
  simp only [stationAddCheck, taken]
  have full : ((findEntry? s g a).isNone && decide (4 ≤ bucketUse s (bucketOf g a))) = true ↔
      findEntry? s g a = none ∧ 4 ≤ bucketUse s (bucketOf g a) := by simp
  rw [if_congr full rfl rfl]
  refine if_congr ?_ rfl rfl
  cases target with
  | port q => cases staged : s.directory.staged[q] <;> simp [targetAllowed, staged, bne, -Fin.getElem_fin]
  | group h => simp [targetAllowed, bne]

/-- R34: a pinned entry is inserted, or found and rewritten. -/
theorem pinStation_eq (g : SegmentId) (a : StationAddr) (target : Target) (owner : TenantId) (s : State) :
    pinStation g a target owner s =
      { s with stations := { s.stations with
        entries :=
          if findEntry? s g a = none then
            insertEntry { segment := g, address := a, kind := .fixed, target := target, tenant := owner }
              s.stations.entries
          else
            s.stations.entries.map fun e =>
              if e.segment = g ∧ e.address = a then { e with kind := .fixed, target := target } else e } } := by
  unfold pinStation
  split
  next absent =>
    rw [if_pos absent]
    rfl
  next e found =>
    rw [if_neg (by simp [found])]
    simp [modEntry, modEntries]

/-- Settles O19: the checks of its owner, in their order. -/
theorem stationAddPinsTheStation : Obligations.StationAddPinsTheStation := by
  intro tag body s accepts nine a
  have served {t : State} {a : Answer} (owner : stationAdd body (hunted s) = (t, a)) :
      exec (.stationAdd tag body) s = performed 0x08 tag a.body t :=
    exec_of_owner (m := ⟨0x08, tag, body⟩) rfl accepts (by simp [lengthAllowed?, nine]) owner
  have refuses {st : Status} (owner : stationAdd body (hunted s) = refuse st (hunted s)) :
      exec (.stationAdd tag body) s = refused 0x08 tag st s :=
    exec_of_refusal (m := ⟨0x08, tag, body⟩) rfl accepts (by simp [lengthAllowed?, nine]) owner
  refine ⟨fun bad => refuses ?_, fun g target named single segment code => ?_⟩
  · simp only [stationAdd]
    split
    next g target segment code =>
      have grouped : isGroupAddress a = true := by
        obtain bad | bad | bad | bad := bad
        · simp [segmentOf?_of_bad (.inl bad)] at segment
        · simp [segmentOf?_of_bad (.inr bad)] at segment
        · exact bad
        · simp [targetOf?_of_bad bad] at code
      exact if_pos grouped
    next => rfl
  · have reached : stationAdd body (hunted s) =
        match stationAddCheck (hunted s) g a target with
        | some st => refuse st (hunted s)
        | none =>
          (pinStation g a target ((s.directory.segments[g].map Segment.owner).getD 0) (hunted s), ⟨.ok, []⟩) := by
      simp only [stationAdd, segmentOf?_of_val segment named, code, targetOf?_code]
      exact (if_neg (by simpa using single)).trans rfl
    have refusal {st : Status} (fails : stationAddCheck (hunted s) g a target = some st) :
        stationAdd body (hunted s) = refuse st (hunted s) := by rw [reached, fails]
    refine ⟨fun absent => refuses (refusal ?_), fun x taken => ?_⟩
    · simp only [stationAddCheck, hunted_directory, absent]
    · intro allowed
      have same : allowed = targetAllowed (hunted s) x g target := by cases target <;> rfl
      have checks := stationAddCheck_of_segment (s := hunted s) taken a target
      rw [same]
      by_cases bad : targetAllowed (hunted s) x g target = false
      · exact (refuses (refusal (checks.trans (if_pos bad)))).trans (if_pos bad).symm
      replace checks := checks.trans (if_neg bad)
      rw [if_neg bad]
      by_cases full : findEntry? s g a = none ∧ 4 ≤ bucketUse s (bucketOf g a)
      · exact (refuses (refusal (checks.trans (if_pos full)))).trans (if_pos full).symm
      replace checks := checks.trans (if_neg full)
      rw [if_neg full]
      refine (served (a := ⟨.ok, []⟩) ?_).trans rfl
      rw [reached, checks]
      simp only [taken, Option.map_some, Option.getD_some, pinStation_eq]
      rfl

/-! ### STATION-REMOVE and STATION-FIND -/

/-- R19: the six bytes of an address. -/
theorem addressByteSum_eq (a : StationAddr) :
    addressByteSum a = ((List.range 6).map fun i => a.toNat / 256 ^ i % 256).sum := by
  simp [addressByteSum, bytesOf, List.range_succ]
  omega

theorem keys_of_findEntry? {s : State} {g : SegmentId} {a : StationAddr} {e : StationEntry}
    (found : findEntry? s g a = some e) : e.segment = g ∧ e.address = a := by
  simpa using List.find?_some found

/-- Settles O20: the checks of the two owners, in their order. -/
theorem stationRemoveAndFindNameOneEntry : Obligations.StationRemoveAndFindNameOneEntry := by
  constructor
  · intro g a
    rw [bucketOf, addressByteSum_eq]
  · intro tag body s accepts eight a
    have removes {t : State} {a : Answer} (owner : stationRemove body (hunted s) = (t, a)) :
        exec (.stationRemove tag body) s = performed 0x09 tag a.body t :=
      exec_of_owner (m := ⟨0x09, tag, body⟩) rfl accepts (by simp [lengthAllowed?, eight]) owner
    have finds {t : State} {a : Answer} (owner : stationFind body (hunted s) = (t, a)) :
        exec (.stationFind tag body) s = performed 0x0A tag a.body t :=
      exec_of_owner (m := ⟨0x0A, tag, body⟩) rfl accepts (by simp [lengthAllowed?, eight]) owner
    have refusal {st : Status} (fails : namedEntry body (hunted s) = .error st) :
        exec (.stationRemove tag body) s = refused 0x09 tag st s ∧
          exec (.stationFind tag body) s = refused 0x0A tag st s :=
      ⟨exec_of_refusal (m := ⟨0x09, tag, body⟩) rfl accepts (by simp [lengthAllowed?, eight])
          (show stationRemove body (hunted s) = _ by simp only [stationRemove, fails]),
        exec_of_refusal (m := ⟨0x0A, tag, body⟩) rfl accepts (by simp [lengthAllowed?, eight])
          (show stationFind body (hunted s) = _ by simp only [stationFind, fails])⟩
    refine ⟨fun bad => refusal ?_, fun g named single segment => ?_⟩
    · simp only [namedEntry]
      split
      next => rfl
      next g segment =>
        have grouped : isGroupAddress a = true := by
          obtain bad | bad | bad := bad
          · simp [segmentOf?_of_bad (.inl bad)] at segment
          · simp [segmentOf?_of_bad (.inr bad)] at segment
          · exact bad
        exact if_pos grouped
    · have reached : namedEntry body (hunted s) =
          match findEntry? s g a with
          | none => .error .notFound
          | some e => .ok e := by
        simp only [namedEntry, segmentOf?_of_val segment named]
        exact (if_neg (by simpa using single)).trans rfl
      refine ⟨fun absent => refusal (by rw [reached, absent]), fun e found => ?_⟩
      have entry : namedEntry body (hunted s) = .ok e := by rw [reached, found]
      obtain ⟨segment, address⟩ := keys_of_findEntry? found
      constructor
      · refine (removes (a := ⟨.ok, bytesOf 1 e.kind.code ++ bytesOf 1 e.target.code⟩)
          (by simp only [stationRemove, entry]; rfl)).trans ?_
        simp only [Answer.body, bytesOf_one, segment, address]
        rfl
      · refine (finds (t := hunted s) (a := ⟨.ok, _⟩) (by simp only [stationFind, entry]; rfl)).trans ?_
        simp only [Answer.body, bytesOf_one, segment, address]
        rfl

/-! ### STATION-FLUSH and the sweep -/

/-- R37: what a flush removes is what it reports. -/
theorem length_sub_filter {α : Type} (p : α → Bool) (l : List α) :
    l.length - (l.filter fun x => !p x).length = l.countP p := by
  have total := List.length_eq_countP_add_countP p (l := l)
  have rest : (l.filter fun x => !p x).length = l.countP fun x => ¬ p x = true := by
    rw [← List.countP_eq_length_filter]
    simp
  omega

/-- R28: the sweep keeps what is fixed or seen, and clears the seen marks. -/
theorem filterMap_sweepEntry (es : List StationEntry) :
    es.filterMap sweepEntry =
      (es.filter fun e => e.kind != .learned false).map fun e =>
        if e.kind = .learned true then { e with kind := .learned false } else e := by
  induction es with
  | nil => rfl
  | cons e es ih =>
    rcases kind : e.kind with (_ | _) | _
    all_goals simp [sweepEntry, kind, ih]

/-- R28: the learned count of a tenant falls by its entries that the sweep removes. -/
theorem countP_sweepEntry (u : TenantId) (es : List StationEntry) :
    (es.filterMap sweepEntry).countP (fun e => e.isLearned && e.tenant == u) =
      es.countP (fun e => e.isLearned && e.tenant == u) -
        es.countP fun e => e.kind == .learned false && e.tenant == u := by
  have split : (es.filterMap sweepEntry).countP (fun e => e.isLearned && e.tenant == u) +
      es.countP (fun e => e.kind == .learned false && e.tenant == u) =
        es.countP fun e => e.isLearned && e.tenant == u := by
    simp only [StationEntry.isLearned]
    induction es with
    | nil => rfl
    | cons e es ih =>
      simp only [List.countP_cons]
      rcases kind : e.kind with (_ | _) | _
      all_goals simp [sweepEntry, kind, List.countP_cons]
      all_goals omega
  omega

/-- Settles O21. -/
theorem flushAndSweepRemoveLearnedEntries : Obligations.FlushAndSweepRemoveLearnedEntries := by
  constructor
  · intro tag body s accepts two
    have reports {gone : StationEntry → Bool}
        (owner : stationFlush body (hunted s) =
          (removeEntries gone (hunted s),
            ⟨.ok, bytesOf 2 (s.stations.entries.length - (s.stations.entries.filter fun e => !gone e).length)⟩)) :
        exec (.stationFlush tag body) s =
          performed 0x0B tag (0x00 :: bytesOf 2 (s.stations.entries.countP gone))
            { hunted s with
              stations := { s.stations with entries := s.stations.entries.filter fun e => !gone e } } := by
      rw [exec_of_owner (m := ⟨0x0B, tag, body⟩) rfl accepts (by simp [lengthAllowed?, two]) owner, length_sub_filter]
      rfl
    intro n gone
    by_cases zero : n = 0
    · have all : gone = StationEntry.isLearned := by
        funext e
        simp [gone, zero]
      rw [if_neg (by omega), all]
      exact reports (if_pos zero)
    · have one (g : SegmentId) (number : n = g.val) : gone = fun e => e.isLearned && e.segment == g := by
        funext e
        have unset : (n == 0) = false := by simpa using zero
        have same : (e.segment.val == n) = (e.segment == g) := by
          rw [Bool.eq_iff_iff]
          simp [number, Fin.ext_iff]
        simp only [gone, unset, same, Bool.false_or]
      split_ifs with large
      · refine exec_of_refusal (m := ⟨0x0B, tag, body⟩) rfl accepts (by simp [lengthAllowed?, two]) ?_
        refine (if_neg zero).trans ?_
        rw [segmentOf?_of_bad (.inr large)]
      · have number : n = (⟨n, by omega⟩ : SegmentId).val := rfl
        rw [one _ number]
        refine reports ((if_neg zero).trans ?_)
        rw [segmentOf?_of_val number fun same => zero (congrArg Fin.val same)]
        rfl
  · intro s due swept
    constructor
    · have fires : sweepDue s = true := decide_eq_true due
      have arm : exec .agingSweep s = execAgingSweep s := rfl
      rw [arm, execAgingSweep, occurs, if_pos fires, sweep, modEntries, filterMap_sweepEntry]
    · intro u
      refine Eq.trans ?_ (countP_sweepEntry u s.stations.entries)
      rw [filterMap_sweepEntry]
      rfl

end Sys2Proof.Machine

/-! The classification and the source check of a frame (R15 to R17, R21 to R25). -/

namespace Sys2Proof.Machine

open Sys2Proof Sys2Proof.Safety

/-! ### What the end of an event writes of a port -/

/-- From `u` to `v` the latched set and the waiting control frame alone may differ. -/
def Settles (u v : PortUnit) : Prop := v = { u with latched := v.latched, waitingControl := v.waitingControl }

/-- From `s` to `t` every port at most settles. -/
def SettlesAll (s t : State) : Prop := ∀ p : Port, Settles s.ports[p] t.ports[p]

theorem Settles.trans {u v w : PortUnit} (h : Settles u v) (h' : Settles v w) : Settles u w := by
  rw [Settles] at h h' ⊢
  rw [h', h]

theorem SettlesAll.trans {s t u : State} (h : SettlesAll s t) (h' : SettlesAll t u) : SettlesAll s u :=
  fun p => (h p).trans (h' p)

theorem SettlesAll.of_same {s t : State} (h : t.ports = s.ports) : SettlesAll s t := fun p => by rw [h]; rfl

theorem SettlesAll.of_ofFn {s t : State} {g : Port → PortUnit} (h : t.ports = Vector.ofFn g)
    (settles : ∀ p : Port, Settles s.ports[p] (g p)) : SettlesAll s t := fun p => by
  have same : t.ports[p] = g p := by simp [h]
  rw [same]
  exact settles p

theorem settlesAll_handControl (p : Port) (c : ControlFrame) (s : State) : SettlesAll s (handControl p c s) := by
  simp only [handControl]
  split_ifs
  · intro q
    by_cases same : q = p
    · subst same
      rw [modPort_self]
      rfl
    · rw [modPort_other same]
      rfl
  · exact SettlesAll.of_same rfl

theorem settlesAll_handPacedPort (p : Port) (paced : Bool) (s : State) : SettlesAll s (handPacedPort p paced s) := by
  simp only [handPacedPort]
  split_ifs
  · exact SettlesAll.of_same rfl
  · split
    · exact settlesAll_handControl p _ { s with relief := { s.relief with paced := s.relief.paced.set p true } }
    · exact SettlesAll.of_same rfl
    · exact SettlesAll.of_same rfl

theorem settlesAll_latchArisen (before s : State) : SettlesAll s (latchArisen before s) :=
  SettlesAll.of_ofFn rfl fun _ => rfl

theorem settlesAll_settle (before s : State) : SettlesAll s (settle before s) := by
  have paced : SettlesAll s (handPaced s) :=
    foldl_invariant (P := SettlesAll s) (fun t q h => h.trans (settlesAll_handPacedPort q (pacedNow s q) t))
      (List.finRange 40) s (SettlesAll.of_same rfl)
  exact paced.trans (settlesAll_latchArisen before (handPaced s))

theorem settlesAll_takeNotice (k : NoticeKind) (s : State) : SettlesAll s (takeNotice k s) := by
  simp only [takeNotice]
  split
  next set _ =>
    refine SettlesAll.of_ofFn rfl fun p => ?_
    split_ifs <;> rfl
  next => exact SettlesAll.of_same rfl

theorem settlesAll_transmit (s : State) : SettlesAll s (transmit s) := by
  simp only [transmit]
  split_ifs
  · exact SettlesAll.of_same rfl
  · split
    · exact SettlesAll.of_same rfl
    · exact SettlesAll.of_same rfl
    · exact settlesAll_takeNotice _ s
    · exact SettlesAll.of_same rfl

theorem settlesAll_conclude (before s : State) : SettlesAll s (conclude before s) :=
  (settlesAll_settle before s).trans (settlesAll_transmit _)

/-! ### Reports -/

/-- R143: a report writes the open meters of the tenant, while billing is not stopped. -/
theorem report_eq (t : TenantId) (f : Meters → Meters) (s : State) :
    report t f s = { s with billing :=
      if s.billing.state = .stopped then s.billing
      else { s.billing with meters := s.billing.meters.set t (s.billing.meters[t].map f) } } := by
  unfold report
  split_ifs <;> rfl

/-! ### The source check -/

theorem stationOf?_eq_some {p : Port} {q : StationPort} (h : stationOf? p = some q) : p = asPort q := by
  simp only [stationOf?] at h
  split_ifs at h
  rw [← Option.some.inj h]
  rfl

/-- R50: the group of a trunk port, by its bit. -/
theorem groupOfPort_eq (s : State) (p : Port) :
    groupOfPort s p =
      if (decide (32 ≤ p.val) && s.forwarding.groupA.members.getLsbD (p.val - 32)) = true then some .a
      else if (decide (32 ≤ p.val) && s.forwarding.groupB.members.getLsbD (p.val - 32)) = true then some .b
      else none := by
  have trunk (set : BitVec 8) : inTrunkSet set p = (decide (32 ≤ p.val) && set.getLsbD (p.val - 32)) := by
    have opposite : (!isStation p) = decide (32 ≤ p.val) := by
      rw [isStation, ← decide_not, decide_eq_decide]
      omega
    rw [inTrunkSet, opposite]
    rfl
  simp only [groupOfPort, trunk]

theorem checkTarget_asPort (s : State) (q : StationPort) : checkTarget s (asPort q) = some (.port q) := by
  simp only [checkTarget, stationOf?_asPort]

theorem checkTarget_of_trunk (s : State) {p : Port} (h : 32 ≤ p.val) :
    checkTarget s p = (groupOfPort s p).map .group := by
  simp only [checkTarget, stationOf?_of_trunk h]

section

variable {c : Classified} {p : Port} {a : StationAddr} {s : State} {target : Target}

theorem sourceCheck_of_skip (h : isGroupAddress a = true ∨ checkTarget s p = none) :
    sourceCheck c p a s = (s, false) := by
  simp only [sourceCheck]
  obtain group | none := h
  · rw [if_pos group]
  · simp only [none, ite_self]

variable (single : isGroupAddress a = false) (checked : checkTarget s p = some target)

include single checked

theorem sourceCheck_of_absent (absent : findEntry? s c.segment a = none) :
    sourceCheck c p a s = (learn c.segment a target c.tenant s, false) := by
  simp only [sourceCheck, single, checked, absent, Bool.false_eq_true, if_false]

theorem sourceCheck_of_learned {e : StationEntry} (found : findEntry? s c.segment a = some e) (learned : e.kind ≠ .fixed) :
    sourceCheck c p a s =
      (if e.target = target then modEntry c.segment a (fun x => { x with kind := .learned true }) s
        else moveStation c.segment a target s, false) := by
  simp only [sourceCheck, single, checked, found, Bool.false_eq_true, if_false]
  split
  · split_ifs <;> rfl
  · contradiction

theorem sourceCheck_of_fixed {e : StationEntry} (found : findEntry? s c.segment a = some e) (fixed : e.kind = .fixed) :
    sourceCheck c p a s =
      if e.target = target then (s, false) else (modPort p (fun u => { u with spoof := u.spoof + 1 }) s, true) := by
  simp only [sourceCheck, single, checked, found, fixed, Bool.false_eq_true, if_false]

end

/-- R23: the Station Table after an insertion or its refusal. -/
theorem learn_eq (g : SegmentId) (a : StationAddr) (target : Target) (t : TenantId) (s : State) :
    learn g a target t s =
      if s.directory.tenants[t].stationLimit ≤ learnedCount s t then
        raiseLearnFullLimit t { s with stations := { s.stations with
          refusedLimit := s.stations.refusedLimit.set t (s.stations.refusedLimit[t] + 1) } }
      else if 4 ≤ bucketUse s (bucketOf g a) then
        raiseLearnFullBucket t
          { s with stations := { s.stations with refusedBucket := s.stations.refusedBucket + 1 } }
      else
        { s with stations := { s.stations with
          entries := insertEntry { segment := g, address := a, kind := .learned true, target := target, tenant := t }
            s.stations.entries } } :=
  rfl

/-- The entry of a key rewritten. -/
theorem modEntry_eq (g : SegmentId) (a : StationAddr) (f : StationEntry → StationEntry) (s : State) :
    modEntry g a f s = { s with stations := { s.stations with
      entries := s.stations.entries.map fun x => if x.segment = g ∧ x.address = a then f x else x } } := by
  simp [modEntry, modEntries]

/-- R24: a move rewrites the entry, counts, and raises STATION-MOVE. -/
theorem moveStation_eq (g : SegmentId) (a : StationAddr) (target : Target) (s : State) :
    moveStation g a target s =
      modNotices (fun n => { n with stationMove := some (g, a) })
        { s with stations := { s.stations with
          entries := s.stations.entries.map fun x =>
            if x.segment = g ∧ x.address = a then { x with kind := .learned true, target := target } else x
          moves := s.stations.moves + 1 } } := by
  simp only [moveStation, modEntry_eq]
  rfl

theorem learn_stations (g : SegmentId) (a : StationAddr) (target : Target) (t : TenantId) (s : State) :
    (learn g a target t s).stations =
      if s.directory.tenants[t].stationLimit ≤ learnedCount s t then
        { s.stations with refusedLimit := s.stations.refusedLimit.set t (s.stations.refusedLimit[t] + 1) }
      else if 4 ≤ bucketUse s (bucketOf g a) then
        { s.stations with refusedBucket := s.stations.refusedBucket + 1 }
      else
        { s.stations with
          entries := insertEntry { segment := g, address := a, kind := .learned true, target := target, tenant := t }
            s.stations.entries } := by
  rw [learn_eq]
  split_ifs <;> rfl

theorem decideFrame_of_classified {p : Port} {f : DataFrame} {c : Classified} {s : State}
    (h : classify s p f = some c) :
    decideFrame p f s =
      if (sourceCheck c p f.src s).2 = true then refusePolicy c.tenant p f.length (sourceCheck c p f.src s).1
      else forward c p f (sourceCheck c p f.src s).1 := by
  simp only [decideFrame, h]

/-- R104: the arrival of a good frame that is handed to classification. -/
theorem dataArrival_of_classified {p : Port} {f : DataFrame} {s : State} (h : classified s p f) :
    dataArrival p f s = decideFrame p f (arrive p s) := by
  obtain ⟨cut, changed, up, good, low, high⟩ := h
  have sound : isBadFrame f = false := by
    simp [isBadFrame, good]
    omega
  simp only [dataArrival, cut, changed, up, receives, sound, beq_self_eq_true, Bool.true_or, Bool.not_true, Bool.or_self,
    Bool.false_eq_true, and_self, if_false, if_true]

/-- An arrival writes the reception and the quiet monitor of its port alone. -/
theorem arrive_port (p q : Port) (s : State) :
    (arrive p s).ports[q].config = s.ports[q].config ∧ (arrive p s).ports[q].spoof = s.ports[q].spoof := by
  by_cases same : q = p
  · subst same
    rw [arrive, modPort_self]
    split_ifs <;> exact ⟨rfl, rfl⟩
  · rw [arrive, modPort_other same]
    exact ⟨rfl, rfl⟩

theorem classify_arrive (p : Port) (f : DataFrame) (s : State) : classify (arrive p s) p f = classify s p f := by
  simp only [classify, classifyStation, classifyTrunk, classOf, appliedBinding, groupOfPort, arrive_keeps, arrive_port] <;> rfl

theorem insertEntry_perm (e : StationEntry) (es : List StationEntry) : (insertEntry e es).Perm (e :: es) := by
  induction es with
  | nil => exact List.Perm.refl _
  | cons x xs ih =>
    simp only [insertEntry]
    split_ifs
    · exact List.Perm.refl _
    · exact (ih.cons x).trans (List.Perm.swap e x xs)

/-- Settles O22. -/
theorem sourceCheckLearnsMovesAndGuards : Obligations.SourceCheckLearnsMovesAndGuards := by
  refine ⟨?check, insertEntry_perm, ?arrival⟩
  case check =>
    intro c p a s memberOf notFull full learns rewrites
    refine ⟨rfl, groupOfPort_eq s p, ?_, checkTarget_of_trunk s, sourceCheck_of_skip, ?_⟩
    · rintro q rfl
      exact checkTarget_asPort s q
    · intro target single checked
      refine ⟨fun absent => ?_, fun e found => ⟨fun learned here => ?_, fun learned elsewhere => ?_,
        fun fixed here => ?_, fun fixed elsewhere => ?_⟩⟩
      · rw [sourceCheck_of_absent single checked absent, learn_eq]
        rfl
      · rw [sourceCheck_of_learned single checked found learned, if_pos here, modEntry_eq]
      · rw [sourceCheck_of_learned single checked found learned, if_neg elsewhere, moveStation_eq]
      · rw [sourceCheck_of_fixed single checked found fixed, if_pos here]
      · rw [sourceCheck_of_fixed single checked found fixed, if_neg elsewhere]
  case arrival =>
    intro p f c target s whole known checked
    have decided := decideFrame_of_classified ((classify_arrive p f s).trans known)
    have checked : checkTarget (arrive p s) p = some target := by
      rw [← checked]
      simp only [checkTarget, groupOfPort, arrive_keeps]
    have finds : findEntry? (arrive p s) c.segment f.src = findEntry? s c.segment f.src := by
      simp only [findEntry?, arrive_keeps]
    have stations : (conclude s (decideFrame p f (arrive p s))).stations =
        (sourceCheck c p f.src (arrive p s)).1.stations := by
      rw [decided]
      split_ifs <;> simp
    refine ⟨conclude s (decideFrame p f (arrive p s)), ?_, fun group => ?_, fun single => ⟨fun absent => ?_,
      fun e found => ⟨fun learned => ?_, fun fixed => ?_, fun fixed elsewhere => ?_⟩⟩⟩
    · rw [← dataArrival_of_classified whole]
      rfl
    · rw [stations, sourceCheck_of_skip (.inl group)]
      exact (arrive_keeps p s).2.1
    · rw [stations, sourceCheck_of_absent single checked (finds.trans absent), learn_stations]
      simp only [learnedCount, bucketUse, arrive_keeps]
      rfl
    · rw [stations, sourceCheck_of_learned single checked (finds.trans found) learned]
      by_cases here : e.target = target
      · simp only [here, if_true, modEntry_eq, arrive_keeps]
      · simp only [here, if_false, moveStation_eq, arrive_keeps]
        rfl
    · rw [stations, sourceCheck_of_fixed single checked (finds.trans found) fixed]
      split_ifs <;> simp
    · have spoofed : decideFrame p f (arrive p s) =
          refusePolicy c.tenant p f.length
            (modPort p (fun u => { u with spoof := u.spoof + 1 }) (arrive p s)) := by
        rw [decided, sourceCheck_of_fixed single checked (finds.trans found) fixed, if_neg elsewhere, if_pos rfl]
      rw [spoofed]
      refine ⟨?_, ?_, ?_, ?_⟩
      · have settled := settlesAll_conclude s (refusePolicy c.tenant p f.length
          (modPort p (fun u => { u with spoof := u.spoof + 1 }) (arrive p s))) p
        rw [settled]
        simp only [refusePolicy_keeps, modPort_self, arrive_port]
      · simp
      · have counted (n : Nat) (u : State) :
            (refusePolicy c.tenant p n u).forwarding.refusedPolicy[p] = u.forwarding.refusedPolicy[p] + 1 := by
          simp only [refusePolicy, reportPolicy, report_keeps, updAt_self]
        simp only [conclude_keeps, counted, modPort_forwarding, arrive_keeps]
      · simp [refusePolicy, reportPolicy, report_eq]

end Sys2Proof.Machine

/-! TRUNK-GROUP (R51), the arrival and the classification of data frames (R15 to R17, R104). -/

namespace Sys2Proof.Machine

open Sys2Proof Sys2Proof.Safety

/-! ### TRUNK-GROUP -/

theorem groupOf?_code (g : Group) : groupOf? g.code = some g := by
  cases g <;> rfl

theorem groupOf?_of_bad {n : Nat} (one : n ≠ 1) (two : n ≠ 2) : groupOf? n = none := by
  simp [groupOf?, one, two]

/-- R51, check 3, as the ports that the set adds or removes. -/
theorem changesEnabled_iff (s : State) (x y : BitVec 8) :
    changesEnabled s (x ^^^ y) = true ↔ ∃ p : Port, 32 ≤ p.val ∧
      x.getLsbD (p.val - 32) ≠ y.getLsbD (p.val - 32) ∧ s.ports[p].link ≠ .disabled := by
  have member (p : Port) : inTrunkSet (x ^^^ y) p = true ↔
      32 ≤ p.val ∧ x.getLsbD (p.val - 32) ≠ y.getLsbD (p.val - 32) := by
    simp [inTrunkSet, isStation, trunkBit, bne_iff_ne]
  simp [changesEnabled, trunkPorts, member, and_assoc, -Fin.getElem_fin]

/-- Settles O23: the checks of its owner, in their order. -/
theorem trunkGroupReplacesTheMembers : Obligations.TrunkGroupReplacesTheMembers := by
  intro tag body s accepts two
  have served {t : State} {a : Answer} (owner : trunkGroup body (hunted s) = (t, a)) :
      exec (.trunkGroup tag body) s = performed 0x10 tag a.body t :=
    exec_of_owner (m := ⟨0x10, tag, body⟩) rfl accepts (by simp [lengthAllowed?, two]) owner
  have refuses {st : Status} (owner : trunkGroup body (hunted s) = refuse st (hunted s)) :
      exec (.trunkGroup tag body) s = refused 0x10 tag st s :=
    exec_of_refusal (m := ⟨0x10, tag, body⟩) rfl accepts (by simp [lengthAllowed?, two]) owner
  constructor
  · intro one two
    refine refuses ?_
    simp only [trunkGroup, groupOf?_of_bad one two]
  · intro g number set other effect
    have reached : trunkGroup body (hunted s) =
        if set &&& other.members ≠ 0 then refuse .conflict (hunted s)
        else if changesEnabled s (set ^^^ (groupTables s g).members) then refuse .state (hunted s)
        else (effect, ⟨.ok, []⟩) := by
      simp only [trunkGroup, number, groupOf?_code]
      cases g <;> rfl
    have changes := changesEnabled_iff s set (groupTables s g).members
    split_ifs with shared enabled
    · exact refuses (reached.trans (if_pos shared))
    all_goals replace reached := reached.trans (if_neg shared)
    · exact refuses (reached.trans (if_pos (changes.mpr enabled)))
    · exact served (a := ⟨.ok, []⟩) (reached.trans (if_neg (mt changes.mp enabled)))

/-! ### The arrival of a data frame -/

/-- R104, R110: what every arrival writes of its port. -/
theorem arrive_eq (p : Port) (s : State) :
    arrive p s =
      modPort p
        (fun u =>
          if p.val < 32 ∧ u.link = .up then
            { u with reception := none, quiet := false, quietTimer := some (u.config.quietMs * 1000) }
          else { u with reception := none }) s := by
  unfold arrive
  congr 1
  funext u
  refine if_congr ?_ rfl rfl
  simp [isStation]

theorem receives_iff (l : LinkState) : receives l = true ↔ l = .up ∨ l = .probing ∨ l = .down := by
  simp [receives, or_assoc]

theorem isBadFrame_iff (f : DataFrame) :
    isBadFrame f = true ↔ f.goodCheck = false ∨ f.length < 64 ∨ 9216 < f.length := by
  simp [isBadFrame, or_assoc]

theorem dataArrival_of_lost {p : Port} (f : DataFrame) {s : State} (h : ¬ received s p) :
    dataArrival p f s = arrive p s := by
  refine if_pos ?_
  rw [received, ← receives_iff] at h
  cases cut : (receptionOf s p).cut
  · simpa [cut] using h
  · rfl

theorem dataArrival_of_received {p : Port} (f : DataFrame) {s : State} (h : received s p) :
    dataArrival p f s =
      if isBadFrame f then errorEvent p (arrive p s)
      else if s.ports[p].link = .up ∧ (receptionOf s p).changed = false then decideFrame p f (arrive p s)
      else arrive p s := by
  obtain ⟨cut, link⟩ := h
  have takes := (receives_iff _).mpr link
  simp only [dataArrival, cut, takes, Bool.not_true, Bool.or_self, Bool.false_eq_true, if_false]

/-! ### Classification -/

theorem classify_asPort (s : State) (q : StationPort) (f : DataFrame) :
    classify s (asPort q) f =
      s.directory.applied[q].map fun b =>
        { tenant := b.tenant, segment := b.segment,
          cls := classOf s b.tenant s.ports[asPort q].config.defaultPriority } := by
  have station : isStation (asPort q) = true := decide_eq_true q.isLt
  have bound : appliedBinding s (asPort q) = s.directory.applied[q] := by
    simp only [appliedBinding, stationOf?_asPort]
  rw [classify, if_pos station, classifyStation, bound]

theorem classify_of_trunk (s : State) {p : Port} (f : DataFrame) (h : 32 ≤ p.val) :
    classify s p f = classifyTrunk s p f :=
  if_neg (by simpa [isStation] using h)

theorem classifyTrunk_of_segment {s : State} (p : Port) {f : DataFrame} {g : SegmentId} {x : Segment} (named : g ≠ 0)
    (tag : f.tag = g.val) (taken : s.directory.segments[g] = some x) :
    classifyTrunk s p f =
      if x.trunkGroup ≠ none ∧ x.trunkGroup = groupOfPort s p then
        some { tenant := x.owner, segment := g, cls := classOf s x.owner f.priority.val }
      else none := by
  simp only [classifyTrunk, segmentOf?_of_val tag named, taken]
  refine if_congr ?_ rfl rfl
  simp [Option.isSome_iff_ne_none]

/-- Settles O25. -/
theorem dataFramesArriveAndAreClassified : Obligations.DataFramesArriveAndAreClassified := by
  constructor
  · intro p f s u arrived
    have arrival {t : State} (h : dataArrival p f s = t) : exec (.dataFrameArrival p f) s = .next (conclude s t) := by
      rw [← h]
      rfl
    have arrives : arrive p s = arrived := arrive_eq p s
    refine ⟨fun lost => ?_, fun got bad => ?_, fun got good low high => ?_⟩
    · exact arrival ((dataArrival_of_lost f lost).trans arrives)
    · refine arrival ?_
      rw [dataArrival_of_received f got, if_pos ((isBadFrame_iff f).mpr bad), arrives]
    · refine arrival ?_
      have sound : ¬ isBadFrame f = true := by
        rw [isBadFrame_iff, good]
        rintro (bad | bad | bad)
        · cases bad
        · omega
        · omega
      rw [dataArrival_of_received f got, if_neg sound, arrives]
  · intro p f s
    refine ⟨?_, fun trunk bad => ?_, fun trunk g named tag => ⟨fun absent => ?_, fun x taken => ?_⟩, fun unknown => ?_⟩
    · rintro q rfl
      exact classify_asPort s q f
    · rw [classify_of_trunk s f trunk, classifyTrunk, segmentOf?_of_bad bad]
    · rw [classify_of_trunk s f trunk, classifyTrunk, segmentOf?_of_val tag named]
      simp only [absent]
    · rw [classify_of_trunk s f trunk, classifyTrunk_of_segment p named tag taken]
      rfl
    · simp only [decideFrame, unknown, refusePolicy, reportPolicy, report_eq, updAt_eq_set]
      rfl

end Sys2Proof.Machine

/-! Copy lists and the forwarding decision (R38 to R49). -/

namespace Sys2Proof.Machine

open Sys2Proof Sys2Proof.Safety

/-! ### The copy list -/

theorem isolated_iff (s : State) (t : TenantId) (q : Port) :
    isolated s t q = true ↔ (appliedBinding s q).map Binding.tenant = some t := by
  simp [isolated]

theorem isStation_iff (p : Port) : isStation p = true ↔ p.val < 32 := by
  simp [isStation]

theorem isStation_of_bound {s : State} {q : Port} {b : Binding} (h : appliedBinding s q = some b) :
    isStation q = true := by
  simp only [appliedBinding, stationOf?] at h
  split_ifs at h with station
  exact (isStation_iff q).mpr station

/-- R49: the members of a membership, by their bits. -/
theorem trunkPorts_eq (set : BitVec 8) :
    trunkPorts set = (List.finRange 40).filter fun p => decide (32 ≤ p.val) && set.getLsbD (p.val - 32) := by
  refine List.filter_congr fun p _ => ?_
  have opposite : (!isStation p) = decide (32 ≤ p.val) := by
    rw [isStation, ← decide_not, decide_eq_decide]
    omega
  rw [inTrunkSet, opposite, trunkBit]

theorem selectMember_trunk {s : State} {g : Group} {h : Fin 256} {m : Port} (selected : selectMember s g h = some m) :
    32 ≤ m.val := by
  have member : m ∈ trunkPorts (groupTables s g).up := List.mem_of_getElem? selected
  rw [trunkPorts_eq] at member
  simp at member
  exact member.1

theorem mem_floodTrunk {s : State} {c : Classified} {h : Fin 256} {q : Port} :
    q ∈ floodTrunk s c h ↔ ∃ g : Group, segmentGroup s c.segment = some g ∧ selectMember s g h = some q := by
  simp only [floodTrunk]
  split
  next g named => simp [named]
  next none => simp [none]

theorem length_floodTrunk (s : State) (c : Classified) (h : Fin 256) : (floodTrunk s c h).length ≤ 1 := by
  simp only [floodTrunk]
  split
  · cases selectMember s _ h <;> simp
  · simp

/-- R43: the station ports that a flood reaches. -/
theorem mem_floodPorts {s : State} {g : SegmentId} {p q : Port} :
    q ∈ floodPorts s g p ↔
      q ≠ p ∧ s.ports[q].link = .up ∧ (appliedBinding s q).map Binding.segment = some g := by
  have station : (appliedBinding s q).map Binding.segment = some g → isStation q = true := by
    intro bound
    obtain ⟨b, bound, -⟩ := Option.map_eq_some_iff.mp bound
    exact isStation_of_bound bound
  simp only [floodPorts, List.mem_filter, List.mem_finRange, true_and, Bool.and_eq_true, decide_eq_true_eq, beq_iff_eq]
  constructor
  · rintro ⟨⟨⟨-, other⟩, up⟩, bound⟩
    exact ⟨other, up, bound⟩
  · rintro ⟨other, up, bound⟩
    exact ⟨⟨⟨station bound, other⟩, up⟩, bound⟩

theorem floodPorts_ascending (s : State) (g : SegmentId) (p : Port) :
    (floodPorts s g p).Pairwise fun a b => a.val < b.val :=
  (List.pairwise_lt_finRange 40).filter _

theorem isStation_of_mem_floodPorts {s : State} {g : SegmentId} {p q : Port} (h : q ∈ floodPorts s g p) :
    isStation q = true := by
  obtain ⟨b, bound, -⟩ := Option.map_eq_some_iff.mp (mem_floodPorts.mp h).2.2
  exact isStation_of_bound bound

theorem length_stations : ((List.finRange 40).filter isStation).length = 32 := by decide

/-- A flood reaches at most the 32 station ports, and not the ingress port. -/
theorem length_floodPorts (s : State) (g : SegmentId) (p : Port) :
    (floodPorts s g p).length + (if isStation p = true then 1 else 0) ≤ 32 := by
  have distinct : (floodPorts s g p).Nodup := (List.nodup_finRange 40).filter _
  have within {l : List Port} (nodup : l.Nodup) (stations : ∀ q ∈ l, isStation q = true) : l.length ≤ 32 := by
    rw [← length_stations]
    refine (nodup.subperm fun q member => ?_).length_le
    simpa using stations q member
  have flood := within distinct fun q => isStation_of_mem_floodPorts
  split_ifs with station
  · refine within (l := p :: floodPorts s g p) (List.nodup_cons.mpr ⟨fun member => ?_, distinct⟩) fun q member => ?_
    · exact (mem_floodPorts.mp member).1 rfl
    · obtain rfl | member := List.mem_cons.mp member
      · exact station
      · exact isStation_of_mem_floodPorts member
  · exact flood

/-- R39: what every copy list is. -/
structure ListSound (p : Port) (l : List Port) : Prop where
  ascending : l.Pairwise fun a b => a.val < b.val
  notIngress : p ∉ l
  short : l.length ≤ 32

theorem ListSound.nil (p : Port) : ListSound p [] := ⟨List.Pairwise.nil, List.not_mem_nil, by simp⟩

theorem ListSound.single {p q : Port} (h : q ≠ p) : ListSound p [q] :=
  ⟨List.pairwise_singleton _ _, by simpa using h.symm, by simp⟩

theorem listSound_stationCopy (s : State) (t : TenantId) {p q : Port} (h : q ≠ p) :
    ListSound p (stationCopy s t q).copies := by
  simp only [stationCopy]
  split_ifs
  · exact ListSound.nil p
  · exact ListSound.single h
  · exact ListSound.nil p

theorem listSound_trunkCopy (s : State) (c : Classified) (g : Group) (h : Fin 256) {p : Port} (station : p.val < 32) :
    ListSound p (trunkCopy s c g h).copies := by
  simp only [trunkCopy]
  split_ifs
  · exact ListSound.nil p
  · split
    next m selected =>
      have trunk := selectMember_trunk selected
      exact ListSound.single fun same => by
        rw [same] at trunk
        omega
    next => exact ListSound.nil p

theorem listSound_floodStations (s : State) (c : Classified) (p : Port) :
    ListSound p (floodStations s c p).copies where
  ascending := (floodPorts_ascending s c.segment p).filter _
  notIngress member := (mem_floodPorts.mp (List.mem_filter.mp member).1).1 rfl
  short := by
    have few := length_floodPorts s c.segment p
    have filtered := List.length_filter_le (isolated s c.tenant) (floodPorts s c.segment p)
    simp only [floodStations]
    omega

theorem listSound_flood (s : State) (c : Classified) (h : Fin 256) {p : Port} (station : p.val < 32) :
    ListSound p ((floodStations s c p).copies ++ floodTrunk s c h) := by
  obtain ⟨ascending, notIngress, -⟩ := listSound_floodStations s c p
  have trunk {q : Port} (member : q ∈ floodTrunk s c h) : 32 ≤ q.val := by
    obtain ⟨g, -, selected⟩ := mem_floodTrunk.mp member
    exact selectMember_trunk selected
  have one := length_floodTrunk s c h
  refine ⟨List.pairwise_append.mpr ⟨ascending, ?_, fun a first b last => ?_⟩, ?_, ?_⟩
  · match list : floodTrunk s c h with
    | [] => exact List.Pairwise.nil
    | [q] => exact List.pairwise_singleton _ _
    | _ :: _ :: _ =>
      rw [list] at one
      simp at one
  · have stationed := (isStation_iff a).mp (isStation_of_mem_floodPorts (List.mem_filter.mp first).1)
    have trunk := trunk last
    omega
  · intro member
    obtain member | member := List.mem_append.mp member
    · exact notIngress member
    · have trunk := trunk member
      omega
  · have few := length_floodPorts s c.segment p
    rw [if_pos ((isStation_iff p).mpr station)] at few
    have filtered := List.length_filter_le (isolated s c.tenant) (floodPorts s c.segment p)
    simp only [floodStations, List.length_append]
    omega

theorem copyList_of_station {p : Port} (h : p.val < 32) (s : State) (c : Classified) (dest : Option Target)
    (hash : Fin 256) : copyList s c p dest hash = copyListStation s c p dest hash :=
  if_pos ((isStation_iff p).mpr h)

theorem copyList_of_trunk {p : Port} (h : 32 ≤ p.val) (s : State) (c : Classified) (dest : Option Target)
    (hash : Fin 256) : copyList s c p dest hash = copyListTrunk s c p dest :=
  if_neg (by simpa [isStation_iff] using h)

/-- R39: every copy list is ascending, leaves out the ingress port and has at most 32 copies. -/
theorem listSound_copyList (s : State) (c : Classified) (p : Port) (dest : Option Target) (h : Fin 256) :
    ListSound p (copyList s c p dest h).copies := by
  obtain station | trunk := Nat.lt_or_ge p.val 32
  · rw [copyList_of_station station]
    match dest with
    | some (.port q) =>
      simp only [copyListStation]
      split_ifs with same
      · exact ListSound.nil p
      · exact listSound_stationCopy s c.tenant same
    | some (.group g) => exact listSound_trunkCopy s c g h station
    | none => exact listSound_flood s c h station
  · rw [copyList_of_trunk trunk]
    match dest with
    | some (.port q) =>
      refine listSound_stationCopy s c.tenant fun same => ?_
      rw [← same] at trunk
      exact absurd q.isLt (Nat.not_lt.mpr trunk)
    | some (.group g) => exact ListSound.nil p
    | none => exact listSound_floodStations s c p

/-- R40: the copy to a station port. -/
theorem stationCopy_eq (s : State) (t : TenantId) (q : StationPort) :
    stationCopy s t (asPort q) =
      if s.ports[asPort q].link ≠ .up then ⟨[], [.unavailable]⟩
      else if s.directory.applied[q].map Binding.tenant = some t then ⟨[asPort q], []⟩
      else ⟨[], [.policy]⟩ := by
  have bound : appliedBinding s (asPort q) = s.directory.applied[q] := by
    simp only [appliedBinding, stationOf?_asPort]
  have alone : isolated s t (asPort q) = true ↔ s.directory.applied[q].map Binding.tenant = some t := by
    rw [isolated_iff, bound]
  exact if_congr Iff.rfl rfl (if_congr alone rfl rfl)

/-- R39, R44: a copy list to a station port is the same from either side. -/
theorem copyList_port (s : State) (c : Classified) (p : Port) (q : StationPort) (h : Fin 256) :
    copyList s c p (some (.port q)) h = if asPort q = p then ⟨[], []⟩ else stationCopy s c.tenant (asPort q) := by
  obtain station | trunk := Nat.lt_or_ge p.val 32
  · rw [copyList_of_station station]
    rfl
  · rw [copyList_of_trunk trunk, if_neg]
    · rfl
    · rintro rfl
      exact absurd q.isLt (Nat.not_lt.mpr trunk)

/-- R43, R44: the copies of a flood. -/
theorem mem_flood {s : State} {c : Classified} {p q : Port} {h : Fin 256} :
    q ∈ (copyList s c p none h).copies ↔
      q ∈ (floodStations s c p).copies ∨ p.val < 32 ∧ q ∈ floodTrunk s c h := by
  obtain station | trunk := Nat.lt_or_ge p.val 32
  · rw [copyList_of_station station]
    simp [copyListStation, station]
  · rw [copyList_of_trunk trunk]
    simp [copyListTrunk, trunk]

theorem flood_refusals (s : State) (c : Classified) (p : Port) (h : Fin 256) :
    (copyList s c p none h).refusals = (floodStations s c p).refusals := by
  obtain station | trunk := Nat.lt_or_ge p.val 32
  · rw [copyList_of_station station]
    rfl
  · rw [copyList_of_trunk trunk]
    rfl

theorem mem_floodStations {s : State} {c : Classified} {p q : Port} :
    q ∈ (floodStations s c p).copies ↔
      ∃ b : Binding, appliedBinding s q = some b ∧ b.segment = c.segment ∧ b.tenant = c.tenant ∧ q ≠ p ∧
        s.ports[q].link = .up := by
  simp only [floodStations, List.mem_filter, mem_floodPorts, isolated_iff]
  constructor
  · rintro ⟨⟨other, up, segment⟩, tenant⟩
    obtain ⟨b, bound, segment⟩ := Option.map_eq_some_iff.mp segment
    rw [bound] at tenant
    exact ⟨b, bound, segment, Option.some.inj tenant, other, up⟩
  · rintro ⟨b, bound, segment, tenant, other, up⟩
    simp [bound, segment, tenant, other, -Fin.getElem_fin, up]

theorem floodStations_refusals (s : State) (c : Classified) (p : Port) :
    (floodStations s c p).refusals =
      ((List.finRange 40).filter fun q =>
        q != p && s.ports[q].link == .up &&
          (appliedBinding s q).any fun b => b.segment == c.segment && b.tenant != c.tenant).map
        fun _ => .policy := by
  simp only [floodStations, floodPorts, List.filter_filter]
  congr 1
  refine List.filter_congr fun q _ => ?_
  rw [Bool.eq_iff_iff]
  match bound : appliedBinding s q with
  | none => simp [bound, isolated]
  | some b =>
    have station := isStation_of_bound bound
    simp [bound, isolated, station, -Fin.getElem_fin]
    tauto

/-! ### The outcome of a decision -/

/-- R48: the flow hash, byte by byte. -/
theorem flowHash_val (g : SegmentId) (f : DataFrame) :
    (flowHash g f).val =
      (((List.range 6).map fun i => f.dst.toNat / 256 ^ i % 256).sum +
        ((List.range 6).map fun i => f.src.toNat / 256 ^ i % 256).sum + g.val) % 256 := by
  rw [← addressByteSum_eq, ← addressByteSum_eq]
  rfl

/-- R46, R47: a number of refusals of each reason, counted at the ingress port and metered to the tenant. -/
def refusing (t : TenantId) (p : Port) (length policy unavailable : Nat) (s : State) : State :=
  { s with
    forwarding := { s.forwarding with
      refusedPolicy := s.forwarding.refusedPolicy.set p (s.forwarding.refusedPolicy[p] + BitVec.ofNat 32 policy)
      refusedUnavailable :=
        s.forwarding.refusedUnavailable.set p (s.forwarding.refusedUnavailable[p] + BitVec.ofNat 32 unavailable) }
    billing :=
      if s.billing.state = .stopped then s.billing
      else
        { s.billing with meters := s.billing.meters.set t (s.billing.meters[t].map fun m =>
          { m with
            refusedPolicy := m.refusedPolicy + BitVec.ofNat 64 (policy * length)
            refusedUnavailable := m.refusedUnavailable + BitVec.ofNat 64 (unavailable * length) }) } }

theorem refusing_zero (t : TenantId) (p : Port) (length : Nat) (s : State) : refusing t p length 0 0 s = s := by
  simp [refusing]

theorem add_add_ofNat {w : Nat} (x : BitVec w) (m n : Nat) :
    x + BitVec.ofNat w m + BitVec.ofNat w n = x + BitVec.ofNat w (n + m) := by
  rw [BitVec.add_assoc, ← BitVec.ofNat_add, Nat.add_comm m]

theorem refusing_refusePolicy (t : TenantId) (p : Port) (length policy unavailable : Nat) (s : State) :
    refusing t p length policy unavailable (refusePolicy t p length s) =
      refusing t p length (policy + 1) unavailable s := by
  simp only [refusing, refusePolicy, reportPolicy, report_eq, updAt_eq_set]
  split_ifs <;> simp [Function.comp_def, add_add_ofNat, Nat.add_mul]

theorem refusing_refuseUnavailable (t : TenantId) (p : Port) (length policy unavailable : Nat) (s : State) :
    refusing t p length policy unavailable (refuseUnavailable t p length s) =
      refusing t p length policy (unavailable + 1) s := by
  simp only [refusing, refuseUnavailable, reportUnavailable, report_eq, updAt_eq_set]
  split_ifs <;> simp [Function.comp_def, add_add_ofNat, Nat.add_mul]

theorem refusePolicy_eq (t : TenantId) (p : Port) (length : Nat) (s : State) :
    refusePolicy t p length s = refusing t p length 1 0 s := by
  rw [← refusing_refusePolicy, refusing_zero]

/-- R46: every refusal of a copy list is counted and metered. -/
theorem reportRefusals_eq (t : TenantId) (p : Port) (length : Nat) (reasons : List RefusalReason) (s : State) :
    reportRefusals t p length reasons s =
      refusing t p length (reasons.count .policy) (reasons.count .unavailable) s := by
  induction reasons generalizing s with
  | nil => exact (refusing_zero t p length s).symm
  | cons r reasons ih =>
    cases r with
    | policy =>
      refine (ih (refusePolicy t p length s)).trans ?_
      rw [refusing_refusePolicy]
      simp
    | unavailable =>
      refine (ih (refuseUnavailable t p length s)).trans ?_
      rw [refusing_refuseUnavailable]
      simp

/-- Settles O26. -/
theorem copyListsFollowTheDestination : Obligations.CopyListsFollowTheDestination := by
  refine ⟨fun g f => flowHash_val g f, fun s g h => ?_, fun s c p h => ?_, fun p f c s known => ?_⟩
  · intro members
    have same : trunkPorts (groupTables s g).up = members := trunkPorts_eq _
    rw [selectMember, selectFrom, same]
  · refine ⟨fun dest => ?_, fun q => ?_, fun g trunk => ?_, fun g station => ?_, fun q => ?_, ?_⟩
    · obtain ⟨ascending, notIngress, short⟩ := listSound_copyList s c p dest h
      exact ⟨ascending, notIngress, short⟩
    · rw [copyList_port, stationCopy_eq]
    · rw [copyList_of_trunk trunk]
      rfl
    · rw [copyList_of_station station]
      rfl
    · rw [mem_flood, mem_floodStations, mem_floodTrunk]
      rfl
    · rw [flood_refusals, floodStations_refusals]
  · intro checked u counts destination list refused
    have decided := decideFrame_of_classified known
    have forwards : forward c p f u =
        if list.copies.isEmpty then
          if list.refusals.isEmpty then countFiltered p refused else refused
        else
          admission
            { tenant := c.tenant, ingress := p, cls := c.cls, flowHash := flowHash c.segment f, data := f,
              copies := list.copies } refused := by
      have listed : copyList u c p (lookupDestination u c.segment f.dst) (flowHash c.segment f) = list := rfl
      simp only [forward, listed, reportRefusals_eq]
      rfl
    refine ⟨fun spoof => ?_, fun passes => ?_⟩
    · rw [decided, if_pos spoof, refusePolicy_eq]
      rfl
    · replace decided := decided.trans (if_neg (by simp [checked, passes] : ¬ checked.2 = true))
      refine ⟨fun none free => ?_, fun none refuses => ?_, fun some => ?_⟩
      · have unchanged : refused = u := by
          have counted : refused = reportRefusals c.tenant p f.length list.refusals u :=
            (reportRefusals_eq c.tenant p f.length list.refusals u).symm
          rw [counted, free]
          rfl
        rw [decided, forwards, none, free, unchanged]
        rfl
      · rw [decided, forwards]
        simp [none, refuses]
      · rw [decided, forwards]
        simp [some]

end Sys2Proof.Machine

/-! The transmit scheduler and the peer's pauses (R67, R68, R71, R104). -/

namespace Sys2Proof.Machine

open Sys2Proof Sys2Proof.Safety

/-! ### The scheduler's selection -/

theorem beginTransmission_of_cons {cls : TrafficClass} {p : Port} {s : State} {c : CopyEntry} {rest : List CopyEntry}
    {r : StoredFrame} (queue : queueOf s.buffer cls p = c :: rest) (record : frameOf? s.buffer c.frame = some r) :
    beginTransmission cls p s =
      emit (.dataFrame p r.data c.marked) (modQueue cls p (fun _ => { c with inTransmission := true } :: rest) s) := by
  simp only [beginTransmission, queue, record]
  cases cls
  all_goals
    simp only [queueOf] at queue
    simp only [modQueue, updAt_eq_set, queue, startHead]

theorem selection_of_free {s : State} {p : Port} (up : s.ports[p].link = .up) (free : lineBusy s p = false) :
    selection s p =
      if s.buffer.held[p] = [] ∨ s.ports[p].peerPause ≠ none ∨ (8 ≤ s.buffer.streak[p] ∧ s.buffer.bulk[p] ≠ []) then
        if s.buffer.bulk[p] = [] then none else some .bulk
      else some .held := by
  have waits : (decide (s.ports[p].link ≠ .up) || lineBusy s p) = false := by simp [up, free, -Fin.getElem_fin]
  have takes : (heldEligible s p && (decide (s.buffer.streak[p] < 8) || s.buffer.bulk[p].isEmpty)) = true ↔
      ¬ (s.buffer.held[p] = [] ∨ s.ports[p].peerPause ≠ none ∨ (8 ≤ s.buffer.streak[p] ∧ s.buffer.bulk[p] ≠ [])) := by
    by_cases low : s.buffer.streak[p] < 8
    · simp [heldEligible, low, Nat.not_le.mpr low, -Fin.getElem_fin]
    · simp [heldEligible, low, Nat.not_lt.mp low, and_assoc, -Fin.getElem_fin]
  rw [selection, waits, if_neg Bool.false_ne_true, if_congr takes rfl rfl, ite_not]
  refine if_congr Iff.rfl ?_ rfl
  cases s.buffer.bulk[p] <;> rfl

/-- R67: a port that is not UP or sends a data frame selects nothing. -/
theorem schedule_of_waiting {s : State} {p : Port} (h : s.ports[p].link ≠ .up ∨ lineBusy s p = true) :
    schedule p s = s := by
  have waits : (decide (s.ports[p].link ≠ .up) || lineBusy s p) = true := by simpa [-Fin.getElem_fin] using h
  rw [schedule, selection, if_pos waits]

section

variable {s : State} {p : Port} {c : CopyEntry} {rest : List CopyEntry} {r : StoredFrame} (up : s.ports[p].link = .up)
  (free : lineBusy s p = false) (record : frameOf? s.buffer c.frame = some r)

include up free

theorem schedule_held (queue : s.buffer.held[p] = c :: rest) (released : s.ports[p].peerPause = none)
    (turn : s.buffer.streak[p] < 8 ∨ s.buffer.bulk[p] = []) (record : frameOf? s.buffer c.frame = some r) :
    schedule p s =
      { s with
        buffer := { s.buffer with
          held := s.buffer.held.set p ({ c with inTransmission := true } :: rest)
          streak := s.buffer.streak.set p (min 8 (s.buffer.streak[p] + 1)) }
        lineOut := s.lineOut ++ [.dataFrame p r.data c.marked] } := by
  have selects : selection s p = some .held := by
    rw [selection_of_free up free, if_neg]
    rintro (empty | paused | ⟨eight, waiting⟩)
    · rw [queue] at empty
      cases empty
    · exact paused released
    · obtain low | none := turn
      · omega
      · exact waiting none
  simp only [schedule, selects]
  rw [beginTransmission_of_cons (cls := .held) (s := setStreak p _ s) queue record]
  rfl

theorem schedule_bulk (queue : s.buffer.bulk[p] = c :: rest)
    (turn : s.buffer.held[p] = [] ∨ s.ports[p].peerPause ≠ none ∨ (8 ≤ s.buffer.streak[p] ∧ s.buffer.bulk[p] ≠ []))
    (record : frameOf? s.buffer c.frame = some r) :
    schedule p s =
      { s with
        buffer := { s.buffer with
          bulk := s.buffer.bulk.set p ({ c with inTransmission := true } :: rest)
          streak := s.buffer.streak.set p 0 }
        lineOut := s.lineOut ++ [.dataFrame p r.data c.marked] } := by
  have selects : selection s p = some .bulk := by
    rw [selection_of_free up free, if_pos turn, if_neg (by simp [queue, -Fin.getElem_fin])]
  simp only [schedule, selects]
  rw [beginTransmission_of_cons (cls := .bulk) (s := setStreak p _ s) queue record]
  rfl

theorem schedule_none (empty : s.buffer.bulk[p] = [])
    (turn : s.buffer.held[p] = [] ∨ s.ports[p].peerPause ≠ none ∨ (8 ≤ s.buffer.streak[p] ∧ s.buffer.bulk[p] ≠ [])) :
    schedule p s = s := by
  rw [schedule, selection_of_free up free, if_pos turn, if_pos empty]

end

/-! ### The peer's pauses -/

theorem arrive_peerPause (p : Port) (s : State) : (arrive p s).ports[p].peerPause = s.ports[p].peerPause := by
  rw [arrive, modPort_self]
  split_ifs <;> rfl

/-- R71: a release of a port that the peer has paused. -/
theorem releasePeer_eq (p : Port) (s : State) :
    releasePeer p s =
      if s.ports[p].peerPause = none then s else schedule p (modPort p (fun u => { u with peerPause := none }) s) := by
  cases paused : s.ports[p].peerPause <;> simp [releasePeer, paused, -Fin.getElem_fin]

/-- R104: a control frame acts where the port receives it. -/
theorem controlArrival_of_received {p : Port} {s : State} (h : received s p) (act : State → State) :
    controlArrival p act s = act (arrive p s) := by
  obtain ⟨cut, link⟩ := h
  have takes := (receives_iff _).mpr link
  simp only [controlArrival, cut, takes, Bool.not_true, Bool.or_self, Bool.false_eq_true, if_false]

theorem controlArrival_of_lost {p : Port} {s : State} (h : ¬ received s p) (act : State → State) :
    controlArrival p act s = arrive p s := by
  refine if_pos ?_
  rw [received, ← receives_iff] at h
  cases cut : (receptionOf s p).cut
  · simpa [cut] using h
  · rfl

/-- Settles O29. -/
theorem schedulerPrefersHeldUnlessPeerPaused : Obligations.SchedulerPrefersHeldUnlessPeerPaused := by
  constructor
  · intro p s u n
    exact ⟨schedule_of_waiting, fun up free =>
      ⟨fun c rest r queue released turn record => schedule_held up free queue released turn record,
        fun turn => ⟨fun empty => schedule_none up free empty turn,
          fun c rest r queue record => schedule_bulk up free queue turn record⟩⟩⟩
  · intro p s arrived freed
    have frees : releasePeer p arrived = freed arrived := by
      rw [releasePeer_eq, arrive_peerPause]
    refine ⟨rfl, fun time => ⟨fun got some => ?_, fun got => ?_, fun lost => ?_⟩, fun got => ?_, fun lost => ?_,
      fun ended => ?_⟩
    · have arrival : exec (.pauseFrameReceived p time) s = .next (controlArrival p (pausePeer p time) s) := rfl
      rw [arrival, controlArrival_of_received got, pausePeer, if_neg some]
    · have arrival : exec (.pauseFrameReceived p 0) s = .next (controlArrival p (pausePeer p 0) s) := rfl
      rw [arrival, controlArrival_of_received got, pausePeer, if_pos rfl, frees]
    · have arrival : exec (.pauseFrameReceived p time) s = .next (controlArrival p (pausePeer p time) s) := rfl
      rw [arrival, controlArrival_of_lost lost]
    · have arrival : exec (.releaseFrameReceived p) s = .next (controlArrival p (releasePeer p) s) := rfl
      rw [arrival, controlArrival_of_received got, frees]
    · have arrival : exec (.releaseFrameReceived p) s = .next (controlArrival p (releasePeer p) s) := rfl
      rw [arrival, controlArrival_of_lost lost]
    · have arrival : exec (.peerPauseExpiry p) s = occurs (elapsed s.ports[p].peerPause) (releasePeer p) s := rfl
      rw [arrival, ended]
      exact congrArg Host.Outcome.next (releasePeer_eq p s)

end Sys2Proof.Machine

/-! BUFFER-QUERY, RELIEF-QUERY and RELIEF-SET, and the evaluation of a held queue (R78, R80 to R83, R97). -/

namespace Sys2Proof.Machine

open Sys2Proof Sys2Proof.Safety

/-! ### The reports -/

theorem queueFigures_length (b : Buffer) (q : List CopyEntry) : (queueFigures b q).length = 4 := by
  simp [queueFigures]

theorem length_flatMap_const {α : Type} {f : α → List Byte} {n : Nat} (each : ∀ x, (f x).length = n) (l : List α) :
    (l.flatMap f).length = l.length * n := by
  induction l with
  | nil => simp
  | cons x l ih =>
    rw [List.flatMap_cons, List.length_append, each, ih, List.length_cons]
    ring

theorem length_flatMap_ports {f : Port → List Byte} {n : Nat} (each : ∀ p, (f p).length = n) :
    ((List.finRange 40).flatMap f).length = 40 * n := by
  rw [length_flatMap_const each, List.length_finRange]

theorem bufferReport_length (s : State) : (bufferReport s).length = 496 := by
  have queues := length_flatMap_ports (n := 8)
    (f := fun p => queueFigures s.buffer s.buffer.held[p] ++ queueFigures s.buffer s.buffer.bulk[p])
    (fun p => by rw [List.length_append, queueFigures_length, queueFigures_length])
  have ports := length_flatMap_ports (n := 4)
    (f := fun p => bytesOf 1 (allowance s p) ++ bytesOf 1 (headroomInUse s p) ++ bytesOf 1 s.buffer.streak[p] ++
      bytesOf 1 (yesNo s.ports[p].peerPause.isSome))
    (fun p => by simp only [List.length_append, length_bytesOf])
  simp only [bufferReport, List.length_append, length_bytesOf, queues, ports]

/-- Section 10.6: the parts carried are the first ones, and one more would not fit. -/
theorem fitParts_eq_take (room : Nat) (parts : List (List Byte)) :
    (fitParts room parts).flatten.length ≤ room ∧
      ∃ carried ≤ parts.length, fitParts room parts = parts.take carried ∧
        (carried < parts.length → room < (parts.take (carried + 1)).flatten.length) := by
  induction parts generalizing room with
  | nil => exact ⟨Nat.zero_le _, 0, le_rfl, rfl, fun h => absurd h (Nat.lt_irrefl _)⟩
  | cons part parts ih =>
    simp only [fitParts]
    split_ifs with fits
    · obtain ⟨short, carried, within, same, full⟩ := ih (room - part.length)
      refine ⟨?_, carried + 1, Nat.succ_le_succ within, by rw [same]; rfl, fun more => ?_⟩
      · rw [List.flatten_cons, List.length_append]
        omega
      · have beyond := full (Nat.lt_of_succ_lt_succ more)
        rw [List.take_succ_cons, List.flatten_cons, List.length_append]
        omega
    · refine ⟨Nat.zero_le _, 0, Nat.zero_le _, rfl, fun _ => ?_⟩
      simpa using fits

theorem settingsBytes_length (r : ReliefSettings) : r.bytes.length = 16 := by
  simp [ReliefSettings.bytes]

theorem generators_length (s : State) : ((List.finRange 40).flatMap (generatorBytes s)).length = 480 :=
  length_flatMap_ports (f := generatorBytes s) (n := 12) fun p => by
    simp only [generatorBytes, List.length_append, length_bytesOf]

/-- R97: a body has room for all but the congested queues, and for what is carried of these. -/
theorem reliefReport_length (s : State) : 498 ≤ (reliefReport s).length ∧ (reliefReport s).length ≤ 1023 := by
  have carried := (fitParts_eq_take congestedRoom
    (((List.finRange 40).filter fun q => s.relief.congested[q]).map (congestedBytes s))).1
  have room : congestedRoom = 525 := rfl
  rw [room] at carried
  simp only [reliefReport, List.length_append, settingsBytes_length, generators_length, length_bytesOf, room]
  omega

/-- Table 10-5: BUFFER-QUERY's layout. -/
theorem bufferReport_eq (s : State) :
    bufferReport s =
      [reserve s, commonPoolSize s, commonInUse s, commonFree s, headroomInUseAll s, freeCells s,
          s.buffer.records.length, entriesInUse s.buffer].flatMap (bytesOf 2) ++
        ((List.finRange 40).flatMap fun p =>
          queueFigures s.buffer s.buffer.held[p] ++ queueFigures s.buffer s.buffer.bulk[p]) ++
        ((List.finRange 40).flatMap fun p =>
          [BitVec.ofNat 8 (allowance s p), BitVec.ofNat 8 (headroomInUse s p), BitVec.ofNat 8 s.buffer.streak[p],
            if s.ports[p].peerPause.isSome = true then 1 else 0]) := by
  simp only [bufferReport, bytesOf_one, ofNat_yesNo, List.flatMap_cons, List.flatMap_nil, List.append_nil,
    List.append_assoc, List.cons_append, List.nil_append]
  rfl

theorem generatorBytes_eq (s : State) (p : Port) :
    generatorBytes s p =
      [if s.relief.paced[p] = true then 1 else 0, BitVec.ofNat 8 s.relief.generators[p].state.code] ++
        bytesOf 2 (s.relief.generators[p].timer.getD 0) ++ bytesOf 4 s.relief.generators[p].pausesSent.toNat ++
        bytesOf 4 s.relief.generators[p].releasesSent.toNat := by
  simp only [generatorBytes, bytesOf_one, ofNat_yesNo]
  rfl

/-- Table 10-5: RELIEF-QUERY's layout. -/
theorem reliefReport_eq {s : State} {parts : List (List Byte)} {carried : Nat}
    (congested : ((List.finRange 40).filter fun q => s.relief.congested[q]).map (congestedBytes s) = parts)
    (within : carried ≤ parts.length) (same : fitParts congestedRoom parts = parts.take carried) :
    reliefReport s =
      s.relief.settings.bytes ++ (List.finRange 40).flatMap (generatorBytes s) ++
        [BitVec.ofNat 8 carried, BitVec.ofNat 8 (parts.length - carried)] ++ (parts.take carried).flatten := by
  have count : (parts.take carried).length = carried := List.length_take_of_le within
  simp only [reliefReport, congested, same, count, bytesOf_one, List.append_assoc, List.cons_append, List.nil_append]

/-- Settles O30: the two reports, each in its layout. -/
theorem bufferAndReliefReportsFitTheirLayouts : Obligations.BufferAndReliefReportsFitTheirLayouts := by
  constructor
  · intro s b cells reserved
    refine ⟨fun p => ⟨rfl, rfl⟩, rfl, rfl, rfl, rfl, rfl, rfl, rfl, fun q => ⟨rfl, fun p => ?_⟩⟩
    rfl
  · intro tag s accepts b r flag byte queue contributors parts
    have congested : ((List.finRange 40).filter fun q => s.relief.congested[q]).map (congestedBytes s) = parts := by
      refine List.map_congr_left fun q _ => ?_
      simp only [congestedBytes, bytesOf_one]
      rfl
    obtain ⟨-, carried, within, same, full⟩ := fitParts_eq_take congestedRoom parts
    refine ⟨?_, bufferReport_length s, ?_, ?_, (reliefReport_length s).1, (reliefReport_length s).2, carried, within, ?_,
      fun more => ?_⟩
    · exact exec_of_owner (m := ⟨0x14, tag, []⟩) (a := ⟨.ok, bufferReport s⟩) rfl accepts rfl rfl
    · exact bufferReport_eq s
    · exact exec_of_owner (m := ⟨0x19, tag, []⟩) (a := ⟨.ok, reliefReport s⟩) rfl accepts rfl rfl
    · rw [reliefReport_eq congested within same, funext (generatorBytes_eq s), ReliefSettings.bytes]
      simp only [List.flatMap_cons, List.flatMap_nil, List.append_nil, List.append_assoc]
      rfl
    · have beyond := full more
      have room : congestedRoom = 525 := rfl
      omega

/-! ### RELIEF-SET -/

theorem bytesOf_add_mul (w m n : Nat) : bytesOf w (m * 256 ^ w + n) = bytesOf w n := by
  induction w generalizing m with
  | zero => rfl
  | succ w ih =>
    have scaled : m * 256 ^ (w + 1) = m * 256 * 256 ^ w := by ring
    have first : (m * 256 * 256 ^ w + n) / 256 ^ w = n / 256 ^ w + m * 256 := by
      rw [Nat.add_comm, Nat.add_mul_div_right _ _ (Nat.pow_pos (by decide))]
    rw [bytesOf, bytesOf, scaled, ih, first]
    congr 1
    apply BitVec.eq_of_toNat_eq
    simp [Nat.add_mod]

/-- R170: bytes are what their number is written as. -/
theorem bytesOf_beNat (bytes : List Byte) : bytesOf bytes.length (beNat bytes) = bytes := by
  induction bytes with
  | nil => rfl
  | cons b bytes ih =>
    have first : (b.toNat * 256 ^ bytes.length + beNat bytes) / 256 ^ bytes.length = b.toNat := by
      rw [Nat.add_comm, Nat.add_mul_div_right _ _ (Nat.pow_pos (by decide)), Nat.div_eq_of_lt (beNat_lt bytes),
        Nat.zero_add]
    rw [beNat_cons, List.length_cons, bytesOf, first, bytesOf_add_mul, ih, BitVec.ofNat_toNat, BitVec.setWidth_eq]

/-- R170: a field of a body, written again. -/
theorem bytesOf_field {body : List Byte} {i w : Nat} (h : i + w ≤ body.length) :
    bytesOf w (field body i w) = (body.drop i).take w := by
  have length : ((body.drop i).take w).length = w := by
    rw [List.length_take, List.length_drop]
    omega
  have written := bytesOf_beNat ((body.drop i).take w)
  rwa [length] at written

/-- R80: the report of the settings that a RELIEF-SET carries is its body. -/
theorem settingsBytes_of_body {body : List Byte} (h : body.length = 16) : (reliefSettingsOf body).bytes = body := by
  have pieces (i : Nat) : (body.drop i).take 2 ++ body.drop (i + 2) = body.drop i := by
    rw [← List.drop_drop]
    exact List.take_append_drop 2 _
  have last : (body.drop 14).take 2 = body.drop 14 := List.take_of_length_le (by simp [h])
  simp only [ReliefSettings.bytes, reliefSettingsOf]
  rw [bytesOf_field (by omega), bytesOf_field (by omega), bytesOf_field (by omega), bytesOf_field (by omega),
    bytesOf_field (by omega), bytesOf_field (by omega), bytesOf_field (by omega), bytesOf_field (by omega)]
  simp only [List.append_assoc]
  rw [last, pieces 12, pieces 10, pieces 8, pieces 6, pieces 4, pieces 2, pieces 0, List.drop_zero]

theorem settings_fit_iff {r : ReliefSettings} (pause : r.pauseTime < 65536) (release : r.releaseTime < 65536) :
    (r.inRange && r.related) = true ↔
      1 ≤ r.bulkLimit ∧ r.bulkLimit ≤ 16384 ∧ 1 ≤ r.heldLimit ∧ r.heldLimit ≤ 16384 ∧ 1 ≤ r.share ∧
        r.share ≤ 16384 ∧ 1 ≤ r.pauseTime ∧ 1 ≤ r.releaseTime ∧ r.markThreshold < r.bulkLimit ∧
        r.paceOff < r.paceOn ∧ r.paceOn ≤ r.heldLimit := by
  simp only [ReliefSettings.inRange, ReliefSettings.related, Bool.and_eq_true, decide_eq_true_eq]
  omega

/-- Settles O31: the check of the settings, and their bytes as they came. -/
theorem reliefSetReplacesAllSettings : Obligations.ReliefSetReplacesAllSettings := by
  intro tag body s accepts sixteen r
  have allowed : lengthAllowed? 0x18 body.length = some true := by simp [lengthAllowed?, sixteen]
  have fit := settings_fit_iff (r := r) (field_lt body 12 2) (field_lt body 14 2)
  have reached : reliefSet body (hunted s) =
      if (r.inRange && r.related) = true then
        ({ hunted s with relief := { s.relief with settings := r } }, ⟨.ok, r.bytes⟩)
      else refuse .value (hunted s) := rfl
  split_ifs with fits
  · have served := exec_of_owner (i := .reliefSet tag body) (m := ⟨0x18, tag, body⟩) rfl accepts allowed
      (reached.trans (if_pos (fit.mpr fits)))
    rw [served]
    exact congrArg (fun b => performed 0x18 tag (0x00 :: b) { hunted s with relief := { s.relief with settings := r } })
      (settingsBytes_of_body sixteen)
  · exact exec_of_refusal (m := ⟨0x18, tag, body⟩) rfl accepts allowed (reached.trans (if_neg (mt fit.mp fits)))

/-! ### The evaluation of a held queue -/

/-- R81: the congestion state after an evaluation, from the two thresholds. -/
theorem congestedAfter_eq (r : ReliefSettings) (was : Bool) (occ : Nat) :
    congestedAfter r was occ = if was = true then decide (r.paceOff < occ) else decide (r.paceOn ≤ occ) := by
  cases was
  · rfl
  · simp [congestedAfter, ← decide_not]

/-- R82: an evaluation writes the queue's congestion state and contributors, and raises RELIEF at a change. -/
theorem evaluateQueue_eq (q : Port) (s : State) :
    evaluateQueue q s =
      { s with
        relief := { s.relief with
          congested := (evaluateQueue q s).relief.congested
          contributors := (evaluateQueue q s).relief.contributors }
        link := { s.link with notices := (evaluateQueue q s).link.notices } } := by
  simp only [evaluateQueue]
  split_ifs <;> rfl

theorem evaluateQueue_relief (q : Port) (s : State) :
    (evaluateQueue q s).relief =
      { s.relief with
        congested := s.relief.congested.set q
          (congestedAfter s.relief.settings s.relief.congested[q] (occupancy s.buffer s.buffer.held[q]))
        contributors := s.relief.contributors.set q
          (if congestedAfter s.relief.settings s.relief.congested[q] (occupancy s.buffer s.buffer.held[q]) = true then
            Vector.ofFn fun i : Port => contributes s q i
          else PortSet.empty) } := by
  simp only [evaluateQueue]
  split_ifs <;> rfl

theorem evaluateQueue_notices (q : Port) (s : State) :
    (evaluateQueue q s).link.notices =
      if s.relief.congested[q] =
          congestedAfter s.relief.settings s.relief.congested[q] (occupancy s.buffer s.buffer.held[q]) then
        s.link.notices
      else
        { s.link.notices with relief := some ((s.link.notices.relief.getD PortSet.empty).set q true) } := by
  simp only [evaluateQueue]
  split_ifs <;> rfl

/-- Settles O32: the evaluation of a queue, written out. -/
theorem congestionFollowsItsThresholds : Obligations.CongestionFollowsItsThresholds := by
  intro q s t was occ now
  have after : congestedAfter s.relief.settings s.relief.congested[q] (occupancy s.buffer s.buffer.held[q]) = now :=
    congestedAfter_eq _ _ _
  have relief := evaluateQueue_relief q s
  have notices := evaluateQueue_notices q s
  rw [after] at relief notices
  have whole := evaluateQueue_eq q s
  refine ⟨congrArg Relief.congested relief, fun i => ?_, fun i other => ?_, notices, (congrArg Relief.settings relief).trans rfl,
    (congrArg Relief.paced relief).trans rfl, (congrArg Relief.generators relief).trans rfl, (congrArg State.buffer whole).trans rfl,
    (congrArg State.ports whole).trans rfl, (congrArg State.billing whole).trans rfl, (congrArg State.directory whole).trans rfl,
    (congrArg State.stations whole).trans rfl, (congrArg State.forwarding whole).trans rfl, (congrArg State.measurement whole).trans rfl,
    (congrArg State.now whole).trans rfl, (congrArg State.lineOut whole).trans rfl, (congrArg State.freeCount whole).trans rfl,
    (congrArg State.pending whole).trans rfl, (congrArg State.link whole).trans rfl⟩
  · have set := congrArg (fun r => r.contributors[q][i]) relief
    refine set.trans ?_
    cases now
    · simp [PortSet.empty]
    · simp [contributes]
  · have set := congrArg (fun r => r.contributors[i]) relief
    refine set.trans ?_
    exact Vector.getElem_set_ne q.isLt i.isLt fun same => other (Fin.ext same.symm)

end Sys2Proof.Machine

/-! The pause generators, the paced conditions and the health conditions (R85 to R91, R96, R115, R116). -/

namespace Sys2Proof.Machine

open Sys2Proof Sys2Proof.Safety

/-! ### The generators -/

/-- R91: a control frame handed, on an idle line and on a busy one. -/
theorem handControl_eq (p : Port) (c : ControlFrame) (s : State) :
    handControl p c s =
      if lineBusy s p = true then modPort p (fun u => { u with waitingControl := some c }) s
      else { s with lineOut := s.lineOut ++ [.control p c] } :=
  rfl

theorem modGenerator_handControl (p : Port) (f : Generator → Generator) (c : ControlFrame) (s : State) :
    modGenerator p f (handControl p c s) = handControl p c (modGenerator p f s) := by
  have same : lineBusy (modGenerator p f s) p = lineBusy s p := rfl
  simp only [handControl, same]
  split_ifs <;> rfl

/-- R87: a pause is counted and handed. -/
theorem startPausing_eq (p : Port) (s : State) :
    startPausing p s =
      handControl p (.pause (min 65535 (s.relief.settings.pauseTime + 50)))
        { s with
          relief :=
            { s.relief with
              generators :=
                s.relief.generators.set p
                  { s.relief.generators[p] with
                    state := .pausing, timer := some s.relief.settings.pauseTime
                    pausesSent := s.relief.generators[p].pausesSent + 1 } } } := by
  rw [startPausing, modGenerator_handControl]
  rfl

/-- R88: a release is counted and handed. -/
theorem endPausing_eq (p : Port) (s : State) :
    endPausing p s =
      handControl p .release
        { s with
          relief :=
            { s.relief with
              generators :=
                s.relief.generators.set p
                  (if s.relief.paced[p] = true then
                    { s.relief.generators[p] with
                      state := .releasing, timer := some s.relief.settings.releaseTime
                      releasesSent := s.relief.generators[p].releasesSent + 1 }
                  else
                    { s.relief.generators[p] with
                      state := .idle, timer := none
                      releasesSent := s.relief.generators[p].releasesSent + 1 }) } } := by
  rw [endPausing, modGenerator_handControl]
  cases paced : s.relief.paced[p]
  · rfl
  · rfl

/-- R87: a port that becomes paced. -/
theorem handPacedPort_true {p : Port} {s : State} (h : s.relief.paced[p] = false) :
    handPacedPort p true s =
      if s.relief.generators[p].state = .idle then
        startPausing p { s with relief := { s.relief with paced := s.relief.paced.set p true } }
      else { s with relief := { s.relief with paced := s.relief.paced.set p true } } := by
  rw [handPacedPort, if_neg (by simp [h, -Fin.getElem_fin])]
  cases state : s.relief.generators[p].state <;> simp [state, -Fin.getElem_fin]

/-- R89: a port that is paced no more. -/
theorem handPacedPort_false {p : Port} {s : State} (h : s.relief.paced[p] = true) :
    handPacedPort p false s =
      if s.relief.generators[p].state = .releasing then
        forceIdle p { s with relief := { s.relief with paced := s.relief.paced.set p false } }
      else { s with relief := { s.relief with paced := s.relief.paced.set p false } } := by
  rw [handPacedPort, if_neg (by simp [h, -Fin.getElem_fin])]
  cases state : s.relief.generators[p].state <;> simp [state, -Fin.getElem_fin]

/-! ### The health conditions -/

theorem setNat_bits (f : Fin 8 → Bool) :
    (List.range 8).map (BitVec.ofNat 8 (setNat f)).getLsbD = [f 0, f 1, f 2, f 3, f 4, f 5, f 6, f 7] := by
  have bits (a b c d e g h i : Bool) :
      (List.range 8).map (BitVec.ofNat 8
        ((if a then 1 else 0) + ((if b then 2 else 0) + ((if c then 4 else 0) + ((if d then 8 else 0) +
          ((if e then 16 else 0) + ((if g then 32 else 0) + ((if h then 64 else 0) + if i then 128 else 0)))))))).getLsbD =
        [a, b, c, d, e, g, h, i] := by
    revert a b c d e g h i
    decide
  rw [← bits]
  rfl

/-! ### The end of an event -/

theorem handPacedPort_latched (q p : Port) (paced : Bool) (s : State) :
    (handPacedPort q paced s).ports[p].latched = s.ports[p].latched := by
  have control (c : ControlFrame) (t : State) : (handControl q c t).ports[p].latched = t.ports[p].latched := by
    rw [handControl_eq]
    split_ifs
    · by_cases same : p = q
      · subst same
        rw [modPort_self]
      · rw [modPort_other same]
    · rfl
  by_cases same : s.relief.paced[q] = paced
  · rw [handPacedPort, if_pos same]
  · cases paced
    · rw [handPacedPort_false (by simpa using same)]
      split_ifs <;> rfl
    · rw [handPacedPort_true (by simpa using same)]
      split_ifs
      · exact control _ { s with relief := { s.relief with paced := s.relief.paced.set q true } }
      · rfl

theorem handPaced_latched (p : Port) (s : State) : (handPaced s).ports[p].latched = s.ports[p].latched := by
  rw [handPaced_eq]
  exact foldl_invariant (P := fun t => t.ports[p].latched = s.ports[p].latched)
    (fun t q h => (handPacedPort_latched q p (pacedNow s q) t).trans h) (List.finRange 40) s rfl

theorem latchArisen_port (before after : State) (p : Port) :
    (latchArisen before after).ports[p] =
      { after.ports[p] with
        latched := after.ports[p].latched |||
          (currentConditions after.ports[p] after.relief.paced[p] &&&
            ~~~ currentConditions before.ports[p] before.relief.paced[p]) } := by
  simp [latchArisen]

/-- Settles O33. -/
theorem eventsSettlePacingAndGenerators : Obligations.EventsSettlePacingAndGenerators := by
  refine ⟨?generators, ?conditions, ?settled⟩
  case generators =>
    intro p s g r hands runs pause pausing flagged
    refine ⟨fun state timer => ?_, fun state timer => ?_, fun clear => if_pos clear, fun set => if_pos set,
      fun clear => ?_, fun set => ?_⟩
    · have arrival : exec (.pausingPhaseExpiry p) s =
          occurs (g.state == .pausing && elapsed g.timer) (endPausing p) s := rfl
      rw [arrival, state, timer]
      exact congrArg Host.Outcome.next (endPausing_eq p s)
    · have arrival : exec (.releasingPhaseExpiry p) s =
          occurs (g.state == .releasing && elapsed g.timer) (startPausing p) s := rfl
      rw [arrival, state, timer]
      exact congrArg Host.Outcome.next (startPausing_eq p s)
    · rw [handPacedPort_true clear, startPausing_eq]
      rfl
    · rw [handPacedPort_false set]
      rfl
  case conditions =>
    intro u paced fenced
    exact setNat_bits fun i => conditionCurrent u paced (i.val + 1)
  case settled =>
    intro before after paced handed current
    have hands : handPaced after = handed := handPaced_eq after
    clear_value handed
    refine ⟨rfl, ?_, pacedRight_settle before after, fun p => ?_⟩
    · have latches (t : State) : latchArisen before t =
          { t with
            ports := Vector.ofFn fun p : Port =>
              { t.ports[p] with latched := t.ports[p].latched ||| (current t p &&& ~~~ current before p) } } := rfl
      rw [settle, hands]
      exact latches handed
    · have tuned := tunesAll_settle before after p
      refine ⟨?_, tuned.link, tuned.config⟩
      have port := latchArisen_port before (handPaced after) p
      have relief : (settle before after).relief = (handPaced after).relief := by simp only [settle, latchArisen_keeps]
      have held := handPaced_latched p after
      rw [hands] at port relief held
      rw [relief, settle, hands, port, ← held]
      rfl

end Sys2Proof.Machine

/-! The passing of base ticks (section 0.7, R92, R112). -/

namespace Sys2Proof.Machine

open Sys2Proof Sys2Proof.Safety

/-! ### The charge for pacing -/

/-- Meters charged with `us` microseconds in PAUSING. -/
def addPaced (us : Nat) (m : Meters) : Meters := { m with pacedUs := m.pacedUs + BitVec.ofNat 64 us }

/-- R92: what n microseconds charge to a tenant for the ports of a list. -/
def pacingOf (l : List Port) (n : Nat) (s : State) (u : TenantId) : Nat :=
  (l.map fun p => if pacedTenant s p = u then pausingUs n s.relief.generators[p] else 0).sum

/-- The open meters after the ports of a list have been charged. -/
def chargedMeters (l : List Port) (n : Nat) (s : State) : Vector (Option Meters) 64 :=
  if s.billing.state = .stopped then s.billing.meters
  else Vector.ofFn fun u : TenantId => s.billing.meters[u].map (addPaced (pacingOf l n s u))

theorem addPaced_zero (m : Meters) : addPaced 0 m = m := by
  simp [addPaced]

theorem addPaced_addPaced (i j : Nat) (m : Meters) : addPaced j (addPaced i m) = addPaced (i + j) m := by
  simp [addPaced, add_add_ofNat, Nat.add_comm]

theorem map_addPaced_addPaced (i j : Nat) (x : Option Meters) :
    (x.map (addPaced i)).map (addPaced j) = x.map (addPaced (i + j)) := by
  cases x <;> simp [addPaced_addPaced]

theorem map_addPaced_zero (x : Option Meters) : x.map (addPaced 0) = x := by
  cases x <;> simp [addPaced_zero]

theorem chargedMeters_of_stopped {s : State} (h : s.billing.state = .stopped) (l : List Port) (n : Nat) :
    chargedMeters l n s = s.billing.meters :=
  if_pos h

theorem chargedMeters_of_running {s : State} (h : s.billing.state ≠ .stopped) (l : List Port) (n : Nat)
    (u : TenantId) : (chargedMeters l n s)[u] = s.billing.meters[u].map (addPaced (pacingOf l n s u)) := by
  rw [chargedMeters, if_neg h]
  simp

theorem meters_ext {x y : Vector (Option Meters) 64} (h : ∀ u : TenantId, x[u] = y[u]) : x = y :=
  Vector.ext fun i hi => h ⟨i, hi⟩

theorem chargedMeters_nil (n : Nat) (s : State) : chargedMeters [] n s = s.billing.meters := by
  by_cases stopped : s.billing.state = .stopped
  · exact chargedMeters_of_stopped stopped _ _
  · refine meters_ext fun u => ?_
    rw [chargedMeters_of_running stopped]
    exact map_addPaced_zero _

theorem pacingOf_cons (p : Port) (l : List Port) (n : Nat) (s : State) (u : TenantId) :
    pacingOf (p :: l) n s u =
      (if pacedTenant s p = u then pausingUs n s.relief.generators[p] else 0) + pacingOf l n s u :=
  rfl

/-- The state with other open meters. -/
def withMeters (x : Vector (Option Meters) 64) (s : State) : State :=
  { s with billing := { s.billing with meters := x } }

theorem chargePort_of_running {s : State} (h : s.billing.state ≠ .stopped) (n : Nat) (p : Port) :
    chargePort n p s =
      withMeters
        (s.billing.meters.set (pacedTenant s p)
          (s.billing.meters[pacedTenant s p].map (addPaced (pausingUs n s.relief.generators[p])))) s := by
  rw [chargePort, reportPaced, report_eq, if_neg h]
  rfl

theorem chargePort_of_stopped {s : State} (h : s.billing.state = .stopped) (n : Nat) (p : Port) :
    chargePort n p s = s := by
  rw [chargePort, reportPaced, report_eq, if_pos h]

/-- R92: a port's charge is its tenant's, and adds to the charge of the ports after it. -/
theorem chargedMeters_chargePort (p : Port) (l : List Port) (n : Nat) (s : State) :
    chargedMeters l n (chargePort n p s) = chargedMeters (p :: l) n s := by
  by_cases stopped : s.billing.state = .stopped
  · rw [chargePort_of_stopped stopped, chargedMeters_of_stopped stopped, chargedMeters_of_stopped stopped]
  · have running (x : Vector (Option Meters) 64) : (withMeters x s).billing.state ≠ .stopped := stopped
    have same (x : Vector (Option Meters) 64) (u : TenantId) : pacingOf l n (withMeters x s) u = pacingOf l n s u := rfl
    have meters (x : Vector (Option Meters) 64) : (withMeters x s).billing.meters = x := rfl
    refine meters_ext fun u => ?_
    rw [chargePort_of_running stopped, chargedMeters_of_running (running _), chargedMeters_of_running stopped, same,
      meters, pacingOf_cons]
    by_cases mine : pacedTenant s p = u
    · subst mine
      have set (x : Option Meters) : (s.billing.meters.set (pacedTenant s p) x)[pacedTenant s p] = x := by simp
      rw [set, map_addPaced_addPaced, if_pos rfl]
    · have set (x : Option Meters) : (s.billing.meters.set (pacedTenant s p) x)[u] = s.billing.meters[u] :=
        Vector.getElem_set_ne (pacedTenant s p).isLt u.isLt fun same => mine (Fin.ext same)
      rw [set, if_neg mine, Nat.zero_add]

theorem withMeters_withMeters (x y : Vector (Option Meters) 64) (s : State) :
    withMeters x (withMeters y s) = withMeters x s :=
  rfl

/-- R92: the ports charged one after the other. -/
theorem foldl_chargePort (l : List Port) (n : Nat) (s : State) :
    l.foldl (fun acc p => chargePort n p acc) s = withMeters (chargedMeters l n s) s := by
  induction l generalizing s with
  | nil =>
    rw [chargedMeters_nil]
    rfl
  | cons p l ih =>
    rw [List.foldl_cons, ih, chargedMeters_chargePort]
    by_cases stopped : s.billing.state = .stopped
    · rw [chargePort_of_stopped stopped]
    · rw [chargePort_of_running stopped, withMeters_withMeters]

theorem passTicks_eq (n : Nat) (s : State) :
    passTicks n s = passTimers n (withMeters (chargedMeters (List.finRange 40) n s) s) := by
  rw [passTicks, chargePacing, foldl_chargePort]

/-- R92: what n microseconds charge, over the ports that are in PAUSING. -/
theorem pacingOf_eq (l : List Port) (n : Nat) (s : State) (u : TenantId) :
    pacingOf l n s u =
      ((l.filter fun p =>
          s.relief.generators[p].state == .pausing && ((appliedBinding s p).map Binding.tenant).getD 0 == u).map
        fun p => min n (s.relief.generators[p].timer.getD 0)).sum := by
  induction l with
  | nil => rfl
  | cons p l ih =>
    rw [pacingOf_cons, ih, pausingUs, pacedTenant, List.filter_cons]
    by_cases pausing : s.relief.generators[p].state = .pausing
    · by_cases mine : ((appliedBinding s p).map Binding.tenant).getD 0 = u
      · simp [pausing, mine, -Fin.getElem_fin]
      · simp [mine, -Fin.getElem_fin]
    · simp [pausing, -Fin.getElem_fin]

/-! ### The timers -/

/-- Two passings charge what one charges. -/
theorem pausingUs_add (m n : Nat) (g : Generator) :
    pausingUs m g + pausingUs n { g with timer := passCountdown m g.timer } = pausingUs (m + n) g := by
  simp only [pausingUs]
  split_ifs
  · cases g.timer with
    | none => simp [passCountdown]
    | some t =>
      simp only [passCountdown, Option.map_some, Option.getD_some]
      omega
  · rfl

theorem passTimers_generators (n : Nat) (s : State) (p : Port) :
    (passTimers n s).relief.generators[p] =
      { s.relief.generators[p] with timer := passCountdown n s.relief.generators[p].timer } := by
  simp [passTimers]

theorem passTimers_ports (n : Nat) (s : State) (p : Port) :
    (passTimers n s).ports[p] = passPort n s.ports[p] := by
  simp [passTimers]

/-- The generators after n microseconds. -/
def passGenerators (n : Nat) (g : Vector Generator 40) : Vector Generator 40 :=
  Vector.ofFn fun p : Port => { g[p] with timer := passCountdown n g[p].timer }

theorem passTimers_relief (n : Nat) (s : State) :
    (passTimers n s).relief = { s.relief with generators := passGenerators n s.relief.generators } :=
  rfl

theorem passGenerators_add (m n : Nat) (g : Vector Generator 40) :
    passGenerators n (passGenerators m g) = passGenerators (m + n) g := by
  refine Vector.ext fun i hi => ?_
  simp [passGenerators, passCountdown_add]

theorem withMeters_relief (x : Vector (Option Meters) 64) (s : State) : (withMeters x s).relief = s.relief := rfl

theorem withMeters_ports (x : Vector (Option Meters) 64) (s : State) : (withMeters x s).ports = s.ports := rfl

/-- The billing after n microseconds. -/
theorem passTimers_billing (n : Nat) (s : State) :
    (passTimers n s).billing =
      { s.billing with
        tickElapsed :=
          if s.billing.state = .stopped then s.billing.tickElapsed else s.billing.tickElapsed + n } :=
  rfl

theorem pacingOf_add (l : List Port) (m n : Nat) (s : State) (x : Vector (Option Meters) 64) (u : TenantId) :
    pacingOf l m s u + pacingOf l n (passTimers m (withMeters x s)) u = pacingOf l (m + n) s u := by
  induction l with
  | nil => rfl
  | cons p l ih =>
    have tenant : pacedTenant (passTimers m (withMeters x s)) p = pacedTenant s p := rfl
    have generator := passTimers_generators m (withMeters x s) p
    have add := pausingUs_add m n s.relief.generators[p]
    rw [pacingOf_cons, pacingOf_cons, pacingOf_cons, tenant, generator, ← ih]
    split_ifs
    · exact (Nat.add_add_add_comm _ _ _ _).trans (congrArg (· + _) add)
    · omega

/-- Passing m and then n microseconds charges what passing m + n charges. -/
theorem chargedMeters_add (l : List Port) (m n : Nat) (s : State) :
    chargedMeters l n (passTimers m (withMeters (chargedMeters l m s) s)) = chargedMeters l (m + n) s := by
  by_cases stopped : s.billing.state = .stopped
  · have rests : (passTimers m (withMeters (chargedMeters l m s) s)).billing.state = .stopped := stopped
    have meters : (passTimers m (withMeters (chargedMeters l m s) s)).billing.meters = chargedMeters l m s := rfl
    rw [chargedMeters_of_stopped rests, meters, chargedMeters_of_stopped stopped, chargedMeters_of_stopped stopped]
  · have runs : (passTimers m (withMeters (chargedMeters l m s) s)).billing.state ≠ .stopped := stopped
    have meters : (passTimers m (withMeters (chargedMeters l m s) s)).billing.meters = chargedMeters l m s := rfl
    refine meters_ext fun u => ?_
    rw [chargedMeters_of_running runs, meters, chargedMeters_of_running stopped, chargedMeters_of_running stopped,
      map_addPaced_addPaced, pacingOf_add]

/-- Section 0.7: the timers passed by m and then by n microseconds. -/
theorem passTimers_add (m n : Nat) (x y : Vector (Option Meters) 64) (s : State) :
    passTimers n (withMeters x (passTimers m (withMeters y s))) = passTimers (m + n) (withMeters x s) := by
  refine state_ext rfl ?_ rfl rfl ?_ ?_ ?_ ?_ ?_ ?_ rfl rfl rfl
  · simp only [passTimers, withMeters, Nat.add_assoc]
  · simp only [passTimers_relief, withMeters_relief, passGenerators_add]
  · refine Vector.ext fun i hi => ?_
    have first := passTimers_ports n (withMeters x (passTimers m (withMeters y s))) ⟨i, hi⟩
    have second := passTimers_ports m (withMeters y s) ⟨i, hi⟩
    have both := passTimers_ports (m + n) (withMeters x s) ⟨i, hi⟩
    refine first.trans (Eq.trans ?_ both.symm)
    rw [withMeters_ports, second, passPort_add, withMeters_ports, withMeters_ports]
  · simp only [passTimers, withMeters]
    cases s.measurement.inProgress <;> simp [Nat.sub_sub]
  · simp only [passTimers, withMeters]
    by_cases stopped : s.billing.state = .stopped <;> simp [stopped, Nat.add_assoc]
  · simp only [passTimers, withMeters, passElapsed_add]
  · simp only [passTimers, withMeters, BitVec.add_assoc, BitVec.ofNat_add]

/-- Section 0.7: passing m and then n microseconds is passing m + n. -/
theorem passTicks_add (m n : Nat) (s : State) : passTicks n (passTicks m s) = passTicks (m + n) s := by
  rw [passTicks_eq n, passTicks_eq m, passTicks_eq (m + n), chargedMeters_add, passTimers_add]

/-- Settles O34. -/
theorem baseTicksMoveTheTimers : Obligations.BaseTicksMoveTheTimers := by
  constructor
  · intro n s
    have ticked := passTicks_eq n s
    refine ⟨passTicks n s, rfl, ?_, fun p => ?_, fun p => ?_, ?_, ?_, fun stopped => ?_, fun running => ⟨?_, fun u => ?_⟩,
      ?_, ?_, ?_, ?_, ?_, ?_⟩
    all_goals rw [ticked]
    · rfl
    · exact passTimers_ports n _ p
    · exact passTimers_generators n _ p
    · rfl
    · rfl
    · have same : withMeters s.billing.meters s = s := rfl
      rw [chargedMeters_of_stopped stopped, same, passTimers_billing, if_pos stopped]
    · rw [passTimers_billing]
      exact if_neg running
    · rw [← pacingOf_eq]
      exact chargedMeters_of_running running (List.finRange 40) n u
    · rfl
    · rfl
    · rfl
    · rfl
    · rfl
    · rw [passTimers_relief, withMeters_relief]
  · intro m n s t ticked
    obtain rfl : passTicks m s = t := Host.Outcome.next.inj ticked
    exact congrArg Host.Outcome.next (passTicks_add m n s)

end Sys2Proof.Machine

/-! PORT-SET, PORT-ADJUST and the enable (R56, R98, R100 to R102, R118, R119). -/

namespace Sys2Proof.Machine

open Sys2Proof Sys2Proof.Safety

/-! ### The enable -/

theorem not_isStation_iff (p : Port) : isStation p = false ↔ 32 ≤ p.val := by
  simp [isStation]

/-- R118, check 1. -/
theorem hasStaged_iff (s : State) (p : Port) :
    hasStaged s p = true ↔ ∃ q : StationPort, p = asPort q ∧ s.directory.staged[q] ≠ none := by
  simp only [hasStaged]
  constructor
  · intro staged
    split at staged
    next q named => exact ⟨q, stationOf?_eq_some named, Option.isSome_iff_ne_none.mp staged⟩
    next => cases staged
  · rintro ⟨q, rfl, staged⟩
    simp only [stationOf?_asPort]
    exact Option.isSome_iff_ne_none.mpr staged

/-- R118: an enable writes the record, starts the error window and enters DOWN. -/
theorem enablePort_eq (p : Port) (config : PortConfig) (s : State) :
    enablePort p config s =
      entersDown p
        { s.ports[p] with
          config := config, errorCount := 0
          errorWindow := some (config.errorWindowMs * 1000)
          rollingCount := if 32 ≤ p.val then 0 else s.ports[p].rollingCount } s := by
  cases station : isStation p
  · rw [if_pos ((not_isStation_iff p).mp station)]
    simp only [enablePort, startErrorWindow, station, Bool.false_eq_true, if_false, modPort_modPort]
    exact enterDown_modPort p _ s
  · rw [if_neg (Nat.not_le.mpr ((isStation_iff p).mp station))]
    simp only [enablePort, startErrorWindow, station, if_true, modPort_modPort]
    exact enterDown_modPort p _ s

/-- Settles O35. -/
theorem enableIsCheckedAndEntersDown : Obligations.EnableIsCheckedAndEntersDown := by
  refine ⟨fun p h s => ?_, enablePort_eq⟩
  exact if_congr (hasStaged_iff s p) rfl rfl

theorem enablePort_config (p : Port) (config : PortConfig) (before s : State) :
    (settle before (enablePort p config s)).ports[p].config = config := by
  rw [(tunesAll_settle before _ p).config, enablePort_eq]
  simp [entersDown]

theorem enableCheck_hunted (s : State) (p : Port) (h : Nat) : enableCheck (hunted s) p h = enableCheck s p h := rfl

/-- R100, R101: the reply to a write of a record carries it. -/
theorem configAnswer_of_config {p : Port} {s : State} {config : PortConfig} (h : s.ports[p].config = config) :
    configAnswer p s = (s, ⟨.ok, config.bytes⟩) := by
  rw [configAnswer, h]

/-! ### PORT-SET -/

/-- R100: the record that a PORT-SET body writes. -/
def portSetConfig (p : Port) (body : List Byte) (c : PortConfig) : PortConfig :=
  { enabled := field body 1 1 == 1, defaultPriority := field body 2 1,
    headroomCells := field body 3 1, errorWindowMs := field body 4 2,
    errorThreshold := field body 6 2, qualifyMs := field body 8 1, breakMs := field body 9 1,
    quietMs := if decide (p.val < 32) then field body 10 2 else c.quietMs,
    beaconMs := if decide (p.val < 32) then c.beaconMs else field body 12 2,
    missLimit := if decide (p.val < 32) then c.missLimit else field body 14 1,
    marginThreshold := field body 15 1, holddownBaseMs := field body 16 2,
    flapLimit := field body 18 1, flapWindowS := field body 19 2 }

theorem writeAll_portSetPairs (p : Port) (body : List Byte) (c : PortConfig) :
    c.writeAll (portSetPairs p body) = portSetConfig p body c := by
  cases station : isStation p
  · have trunk : decide (p.val < 32) = false := station
    simp only [portSetConfig, trunk, Bool.false_eq_true, if_false]
    simp [portSetPairs, ConfigField.onPort, station, PortConfig.writeAll, PortConfig.write]
  · have low : decide (p.val < 32) = true := station
    simp only [portSetConfig, low, if_true]
    simp [portSetPairs, ConfigField.onPort, station, PortConfig.writeAll, PortConfig.write]

/-- Table 6-1: the ranges of a PORT-SET's fields. -/
theorem pairsInRange_portSetPairs (p : Port) (body : List Byte) (c : PortConfig) :
    pairsInRange p (portSetPairs p body) = true ↔
      field body 1 1 ≤ 1 ∧ (portSetConfig p body c).defaultPriority ≤ 7 ∧
        (portSetConfig p body c).headroomCells ≤ 128 ∧ 1 ≤ (portSetConfig p body c).errorWindowMs ∧
        (portSetConfig p body c).errorWindowMs ≤ 1000 ∧ 1 ≤ (portSetConfig p body c).errorThreshold ∧
        1 ≤ (portSetConfig p body c).qualifyMs ∧ (portSetConfig p body c).qualifyMs ≤ 100 ∧
        1 ≤ (portSetConfig p body c).breakMs ∧ (portSetConfig p body c).breakMs ≤ 16 ∧
        (p.val < 32 → 1 ≤ (portSetConfig p body c).quietMs ∧ (portSetConfig p body c).quietMs ≤ 60000) ∧
        (32 ≤ p.val →
          1 ≤ (portSetConfig p body c).beaconMs ∧ (portSetConfig p body c).beaconMs ≤ 1000 ∧
            2 ≤ (portSetConfig p body c).missLimit ∧ (portSetConfig p body c).missLimit ≤ 15) ∧
        10 ≤ (portSetConfig p body c).holddownBaseMs ∧ (portSetConfig p body c).holddownBaseMs ≤ 1000 ∧
        2 ≤ (portSetConfig p body c).flapLimit ∧ (portSetConfig p body c).flapLimit ≤ 15 ∧
        1 ≤ (portSetConfig p body c).flapWindowS ∧ (portSetConfig p body c).flapWindowS ≤ 3600 := by
  have threshold := field_lt body 6 2
  have margin := field_lt body 15 1
  cases station : isStation p
  · have trunk : 32 ≤ p.val := (not_isStation_iff p).mp station
    have low : ¬ p.val < 32 := by omega
    simp [portSetPairs, ConfigField.onPort, station, pairsInRange, ConfigField.inRange, portSetConfig, low, trunk]
    omega
  · have low : p.val < 32 := (isStation_iff p).mp station
    have trunk : ¬ 32 ≤ p.val := by omega
    simp [portSetPairs, ConfigField.onPort, station, pairsInRange, ConfigField.inRange, portSetConfig, low, trunk]
    omega

/-- Settles O36: the checks of its owner, in their order. -/
theorem portSetReplacesTheRecord : Obligations.PortSetReplacesTheRecord := by
  intro tag body s accepts len
  have served {t : State} {rest : List Byte} (owner : portSet body (hunted s) = (t, ⟨.ok, rest⟩)) :
      exec (.portSet tag body) s = performed 0x20 tag (0x00 :: rest) t :=
    exec_of_owner (m := ⟨0x20, tag, body⟩) rfl accepts (by simp [lengthAllowed?, len]) owner
  have refuses {st : Status} (owner : portSet body (hunted s) = refuse st (hunted s)) :
      exec (.portSet tag body) s = refused 0x20 tag st s :=
    exec_of_refusal (m := ⟨0x20, tag, body⟩) rfl accepts (by simp [lengthAllowed?, len]) owner
  refine ⟨fun large => refuses ?_, ?_⟩
  · simp only [portSet, portOf?_of_large large]
  · intro p number station config inRange answers h
    have written : s.ports[p].config.writeAll (portSetPairs p body) = config := writeAll_portSetPairs p body _
    have range : pairsInRange p (portSetPairs p body) = true ↔ inRange := pairsInRange_portSetPairs p body _
    have reached : portSet body (hunted s) =
        if !pairsInRange p (portSetPairs p body) then refuse .value h
        else if s.ports[p].link ≠ .disabled then refuse .state h
        else if config.enabled then
          match enableCheck s p config.headroomCells with
          | some st => refuse st h
          | none => configAnswer p (settle h (enablePort p config h))
        else configAnswer p (modPort p (fun u => { u with config := config }) h) := by
      simp only [portSet, portOf?_of_val number, setPort, hunted_ports, written, enableCheck_hunted] <;> rfl
    refine ⟨fun bad => ?_, fun fits enabled => ?_, fun fits disabled off => ?_, fun fits disabled on => ?_⟩
    · exact refuses (reached.trans (if_pos (by simpa using mt range.mp bad)))
    all_goals replace reached := reached.trans (if_neg (by simpa using range.mpr fits))
    · exact refuses (reached.trans (if_pos enabled))
    · replace reached := reached.trans ((if_neg (not_not.mpr disabled)).trans (if_neg (by simp [off])))
      have config_written : (modPort p (fun u => { u with config := config }) h).ports[p].config = config := by
        rw [modPort_self]
      exact served (reached.trans (configAnswer_of_config config_written))
    · replace reached := reached.trans ((if_neg (not_not.mpr disabled)).trans (if_pos on))
      refine ⟨fun st fails => ?_, fun passes => ?_⟩
      · exact refuses (reached.trans (by rw [fails]))
      · rw [passes] at reached
        exact served (reached.trans (configAnswer_of_config (enablePort_config p config h h)))

/-! ### The pairs of PORT-ADJUST -/

/-- Table 6-1: the fields with their ranges. -/
def fieldTable : List (ConfigField × Nat × Nat) :=
  [(.enabled, 0, 1), (.defaultPriority, 0, 7), (.headroomCells, 0, 128), (.errorWindowMs, 1, 1000),
    (.errorThreshold, 1, 65535), (.qualifyMs, 1, 100), (.breakMs, 1, 16), (.quietMs, 1, 60000),
    (.beaconMs, 1, 1000), (.missLimit, 2, 15), (.marginThreshold, 0, 255),
    (.holddownBaseMs, 10, 1000), (.flapLimit, 2, 15), (.flapWindowS, 1, 3600)]

/-- Table 10-4: the fields' numbers are their places in Table 6-1. -/
theorem configFieldOf?_eq (n : Nat) :
    configFieldOf? n = ((none :: fieldTable.map (some ∘ Prod.fst))[n]?).join := by
  obtain small | large := Nat.lt_or_ge n 15
  · revert n
    decide
  · have beyond : (none :: fieldTable.map (some ∘ Prod.fst))[n]? = none := by
      rw [List.getElem?_eq_none_iff]
      exact large
    rw [beyond]
    obtain ⟨k, rfl⟩ := Nat.exists_eq_add_of_le large
    rw [Nat.add_comm]
    rfl

theorem inRange_fieldTable : ∀ row ∈ fieldTable, ∀ v : Nat, row.1.inRange v = decide (row.2.1 ≤ v ∧ v ≤ row.2.2) := by
  simp [fieldTable, ConfigField.inRange]

theorem lookup_eq_none_of_fresh {pairs : List (ConfigField × Nat)} {f : ConfigField} (h : f ∉ pairs.map Prod.fst) :
    pairs.lookup f = none := by
  rw [List.lookup_eq_none_iff]
  intro fv listed
  simpa using fun same : f = fv.1 => h (List.mem_map.mpr ⟨fv, listed, same.symm⟩)

/-- R101: pairs in range that name each field once write the values they name. -/
theorem configFields_writeAll (c : PortConfig) (pairs : List (ConfigField × Nat)) (once : (pairs.map Prod.fst).Nodup)
    (range : ∀ fv ∈ pairs, fv.1.inRange fv.2 = true) :
    configFields (c.writeAll pairs) =
      (configFields c).map fun fv => (fv.1, (pairs.lookup fv.1).getD fv.2) := by
  induction pairs generalizing c with
  | nil => simp [PortConfig.writeAll]
  | cons pair pairs ih =>
    obtain ⟨f, v⟩ := pair
    rw [List.map_cons, List.nodup_cons] at once
    obtain ⟨fresh, once⟩ := once
    obtain ⟨fits, range⟩ := List.forall_mem_cons.mp range
    have written : (if f = .enabled then yesNo (v == 1) else v) = v := by
      split_ifs with switch
      · subst switch
        have bit : v ≤ 1 := by simpa [ConfigField.inRange] using fits
        obtain rfl | rfl : v = 0 ∨ v = 1 := by omega
        · rfl
        · rfl
      · rfl
    have step : (c.writeAll ((f, v) :: pairs)) = (c.write f v).writeAll pairs := rfl
    rw [step, ih (c.write f v) once range, configFields_write, written, List.map_map]
    refine List.map_congr_left fun fv _ => ?_
    obtain ⟨g, w⟩ := fv
    by_cases same : g = f
    · subst same
      simp [lookup_eq_none_of_fresh fresh]
    · have other : (g == f) = false := by simpa using same
      simp [same, List.lookup_cons, other]

/-- R101: what pairs that name each field once give a field. -/
theorem pairValue_of_mem {pairs : List (ConfigField × Nat)} {f : ConfigField} {v : Nat}
    (once : (pairs.map Prod.fst).Nodup) (h : (f, v) ∈ pairs) : pairValue pairs f = some v := by
  induction pairs with
  | nil => cases h
  | cons pair pairs ih =>
    obtain ⟨g, w⟩ := pair
    rw [List.map_cons, List.nodup_cons] at once
    obtain ⟨fresh, once⟩ := once
    obtain same | later := List.mem_cons.mp h
    · obtain ⟨rfl, rfl⟩ := Prod.mk.inj same
      simp [pairValue]
    · have other : ¬ g = f := fun same => fresh (List.mem_map.mpr ⟨(f, v), later, same.symm⟩)
      simpa [pairValue, other] using ih once later

theorem mem_of_pairValue {pairs : List (ConfigField × Nat)} {f : ConfigField} {v : Nat}
    (h : pairValue pairs f = some v) : (f, v) ∈ pairs := by
  obtain ⟨⟨g, w⟩, found, rfl⟩ := Option.map_eq_some_iff.mp h
  have same : g = f := by simpa using List.find?_some found
  rw [← same]
  exact List.mem_of_find?_eq_some found

theorem pairValue_isSome (pairs : List (ConfigField × Nat)) (f : ConfigField) :
    (pairValue pairs f).isSome = pairs.any fun fv => fv.1 == f := by
  rw [pairValue, Option.isSome_map, Bool.eq_iff_iff, List.find?_isSome, List.any_eq_true]

/-! ### PORT-ADJUST -/

theorem adjustBad_eq (p : Port) (pairs : List (ConfigField × Nat)) :
    adjustBad p pairs =
      (pairs.any (fun fv => !(fv.1.onPort p && fv.1.inRange fv.2)) || decide ¬ (pairs.map Prod.fst).Nodup) := by
  rw [adjustBad, pairsInRange, List.not_all_eq_any_not]

theorem field_first (b : Byte) (rest : List Byte) : field (b :: rest) 0 1 = b.toNat := by
  simp [field, beNat]

section

variable {p : Port} {pairs : List (ConfigField × Nat)} {s : State} {config : PortConfig}

/-- R101, check 3. -/
theorem adjustPort_of_enabled (good : adjustBad p pairs = false) (enabled : s.ports[p].link ≠ .disabled)
    (headroom : (pairValue pairs .headroomCells).isSome = true) : adjustPort p pairs s = refuse .state s := by
  have open_port : (s.ports[p].link == .disabled) = false := by simpa using enabled
  simp only [adjustPort, good, open_port, headroom, Bool.false_eq_true, Bool.not_false, Bool.and_self, if_false, if_true]

/-- R101: an enable. -/
theorem adjustPort_of_enable (written : s.ports[p].config.writeAll pairs = config) (good : adjustBad p pairs = false)
    (disabled : s.ports[p].link = .disabled) (asks : pairValue pairs .enabled = some 1) :
    adjustPort p pairs s =
      match enableCheck s p config.headroomCells with
      | some st => refuse st s
      | none => (settle s (enablePort p config s), ⟨.ok, config.bytes⟩) := by
  have closed_port : (s.ports[p].link == .disabled) = true := by simpa using disabled
  have applied : adjustApply p pairs s = settle s (enablePort p config s) := by
    simp only [adjustApply, asks, disabled, written]
  have answer := configAnswer_of_config (enablePort_config p config s s)
  simp only [adjustPort, good, closed_port, asks, written, applied, answer, Bool.false_eq_true, Bool.not_true,
    Bool.and_false, and_self, if_false, if_true] <;> rfl

/-- R101: what is written where no enable is asked for. -/
theorem adjustPort_of_other {t : State} (good : adjustBad p pairs = false)
    (allowed : s.ports[p].link = .disabled ∨ (pairValue pairs .headroomCells).isSome = false)
    (asks : ¬ (pairValue pairs .enabled = some 1 ∧ s.ports[p].link = .disabled)) (applied : adjustApply p pairs s = t)
    (kept : t.ports[p].config = config) : adjustPort p pairs s = (t, ⟨.ok, config.bytes⟩) := by
  have passes : ¬ ((pairValue pairs .headroomCells).isSome && !(s.ports[p].link == .disabled)) = true := by
    obtain disabled | absent := allowed
    · simp [disabled, -Fin.getElem_fin]
    · simp [absent]
  have no_enable : ¬ (pairValue pairs .enabled = some 1 ∧ (s.ports[p].link == .disabled) = true) := by
    simpa using asks
  simp only [adjustPort, good, Bool.false_eq_true, if_false, if_neg passes, if_neg no_enable, applied,
    configAnswer_of_config kept]

end

theorem modPort_config {p : Port} {config : PortConfig} {s : State} :
    (modPort p (fun u => { u with config := config }) s).ports[p].config = config := by
  rw [modPort_self]

theorem disablePort_config (p : Port) (before s : State) :
    (settle before (disablePort p s)).ports[p].config = s.ports[p].config := by
  rw [(tunesAll_settle before _ p).config, (alters_disablePort p s).self]

/-- R101: a disable. -/
theorem adjustApply_of_disable {p : Port} {pairs : List (ConfigField × Nat)} {s : State}
    (enabled : s.ports[p].link ≠ .disabled) (asks : pairValue pairs .enabled = some 0) :
    adjustApply p pairs s =
      settle s (disablePort p (modPort p (fun u => { u with config := s.ports[p].config.writeAll pairs }) s)) := by
  simp only [adjustApply, asks]

/-- R101: a write alone, which restarts the silence timer. -/
theorem adjustApply_of_write {p : Port} {pairs : List (ConfigField × Nat)} {s : State}
    (enable : ¬ (pairValue pairs .enabled = some 1 ∧ s.ports[p].link = .disabled))
    (disable : pairValue pairs .enabled ≠ some 0) :
    adjustApply p pairs s =
      restartSilence pairs p (modPort p (fun u => { u with config := s.ports[p].config.writeAll pairs }) s) := by
  simp only [adjustApply]
  split
  next asks link => exact absurd ⟨asks, link⟩ enable
  next asks _ => exact absurd asks disable
  next asks _ => exact absurd asks disable
  next => rfl

/-- R101: a write of `enabled = no` to a DISABLED port. -/
theorem adjustApply_of_disabled {p : Port} {pairs : List (ConfigField × Nat)} {s : State}
    (disabled : s.ports[p].link = .disabled) (asks : pairValue pairs .enabled = some 0) :
    adjustApply p pairs s = modPort p (fun u => { u with config := s.ports[p].config.writeAll pairs }) s := by
  simp only [adjustApply, asks, disabled]

/-- R102: a write restarts the silence timer where it names beacon_ms or miss_limit. -/
theorem restartSilence_eq (pairs : List (ConfigField × Nat)) (p : Port) (s : State) :
    restartSilence pairs p s =
      if (pairs.any fun fv => fv.1 == .beaconMs) = true ∨ (pairs.any fun fv => fv.1 == .missLimit) = true then
        modPort p (fun u => { u with silence := u.silence.map fun _ => 0 }) s
      else s := by
  simp only [restartSilence, pairValue_isSome]
  exact if_congr (Bool.or_eq_true _ _ ▸ Iff.rfl) rfl rfl

theorem restartSilence_config (pairs : List (ConfigField × Nat)) (p : Port) (s : State) :
    (restartSilence pairs p s).ports[p].config = s.ports[p].config := by
  rw [restartSilence]
  split_ifs
  · rw [modPort_self]
  · rfl

theorem restartSilence_of_stopped (pairs : List (ConfigField × Nat)) {p : Port} {s : State}
    (stopped : s.ports[p].silence = none) : restartSilence pairs p s = s := by
  rw [restartSilence]
  split_ifs
  · refine modPort_id ?_
    rw [stopped, Option.map_none, ← stopped]
  · rfl

/-- A PORT-ADJUST that names one port and pairs of known fields. -/
theorem portAdjust_of_pairs {port : Byte} {rest : List Byte} {p : Port} {pairs : List (ConfigField × Nat)} {s : State}
    (number : port.toNat = p.val) (named : adjustPairs rest = some pairs) :
    portAdjust (port :: rest) s = adjustPort p pairs s := by
  simp only [portAdjust, field_first, portOf?_of_val number, List.drop_succ_cons, List.drop_zero, named]

theorem portAdjust_of_bad {port : Byte} {rest : List Byte} {s : State}
    (bad : 39 < port.toNat ∨ adjustPairs rest = none) : portAdjust (port :: rest) s = refuse .value s := by
  simp only [portAdjust, field_first, List.drop_succ_cons, List.drop_zero]
  split
  next p pairs number named =>
    obtain bad | bad := bad
    · rw [portOf?_of_large bad] at number
      cases number
    · rw [bad] at named
      cases named
  next => rfl

theorem adjustPairs_cons (n high low : Byte) (rest : List Byte) :
    adjustPairs (n :: high :: low :: rest) =
      match ((none :: fieldTable.map (some ∘ Prod.fst))[n.toNat]?).join, adjustPairs rest with
      | some f, some more => some ((f, high.toNat * 256 + low.toNat) :: more)
      | _, _ => none := by
  have number : beNat [high, low] = high.toNat * 256 + low.toNat := by simp [beNat]
  rw [adjustPairs, number, configFieldOf?_eq] <;> rfl

theorem onPort_eq (f : ConfigField) (p : Port) :
    f.onPort p =
      (if f = .quietMs then decide (p.val < 32)
        else if f = .beaconMs ∨ f = .missLimit then decide (32 ≤ p.val)
        else true) := by
  have trunk : (!isStation p) = decide (32 ≤ p.val) := (trunk_eq p).symm
  cases f
  case quietMs => rfl
  case beaconMs => exact trunk
  case missLimit => exact trunk
  all_goals rfl

/-- Settles O37: the checks of its owner, in their order. -/
theorem portAdjustWritesTheNamedFields : Obligations.PortAdjustWritesTheNamedFields := by
  constructor
  · exact ⟨rfl, adjustPairs_cons, inRange_fieldTable, onPort_eq, configFields_writeAll⟩
  · intro tag port rest s accepts least most triples
    have allowed : lengthAllowed? 0x21 (port :: rest).length = some true := by
      have multiple : adjustLength (port :: rest).length = true := by
        simp only [adjustLength, List.length_cons, Bool.and_eq_true, decide_eq_true_eq, beq_iff_eq]
        omega
      exact congrArg some multiple
    have served {t : State} {r : List Byte} (owner : portAdjust (port :: rest) (hunted s) = (t, ⟨.ok, r⟩)) :
        exec (.portAdjust tag (port :: rest)) s = performed 0x21 tag (0x00 :: r) t :=
      exec_of_owner (m := ⟨0x21, tag, port :: rest⟩) rfl accepts allowed owner
    have refuses {st : Status} (owner : portAdjust (port :: rest) (hunted s) = refuse st (hunted s)) :
        exec (.portAdjust tag (port :: rest)) s = refused 0x21 tag st s :=
      exec_of_refusal (m := ⟨0x21, tag, port :: rest⟩) rfl accepts allowed owner
    refine ⟨fun bad => refuses (portAdjust_of_bad bad), ?_⟩
    intro p pairs number named u names bad config answers h written
    have reached : portAdjust (port :: rest) h = adjustPort p pairs h := portAdjust_of_pairs number named
    have checks : adjustBad p pairs = bad := adjustBad_eq p pairs
    refine ⟨fun fails => ?_, fun passes => ?_⟩
    · refine refuses (reached.trans ?_)
      rw [adjustPort, if_pos (checks.trans fails)]
    have good : adjustBad p pairs = false := checks.trans passes
    have once : (pairs.map Prod.fst).Nodup := by
      simp only [bad, Bool.or_eq_false_iff, decide_eq_false_iff_not, not_not] at passes
      exact passes.2
    have value (f : ConfigField) : (pairValue pairs f).isSome = names f := pairValue_isSome pairs f
    refine ⟨fun enabled headroom => ?_, fun disabled asks => ?_, fun enabled headroom asks => ?_,
      fun enabled headroom asks => ?_, fun disabled asks stopped => ?_⟩
    · exact refuses (reached.trans (adjustPort_of_enabled good enabled ((value _).trans headroom)))
    · have enables := adjustPort_of_enable (s := h) (config := config) rfl good disabled (pairValue_of_mem once asks)
      rw [enableCheck_hunted] at enables
      cases check : enableCheck s p config.headroomCells with
      | some st =>
        rw [check] at enables
        exact refuses (reached.trans enables)
      | none =>
        rw [check] at enables
        exact served (reached.trans enables)
    · have zero := pairValue_of_mem once asks
      have applied := adjustApply_of_disable (s := h) enabled zero
      refine served (reached.trans (adjustPort_of_other good (.inr ((value _).trans headroom)) ?_ applied ?_))
      · rintro ⟨-, disabled⟩
        exact enabled disabled
      · rw [disablePort_config, modPort_config]
    · have other : pairValue pairs .enabled ≠ some 0 := fun zero => asks (mem_of_pairValue zero)
      have no_enable : ¬ (pairValue pairs .enabled = some 1 ∧ h.ports[p].link = .disabled) := fun both => enabled both.2
      have applied := adjustApply_of_write no_enable other
      have kept : (restartSilence pairs p written).ports[p].config = config :=
        (restartSilence_config pairs p written).trans modPort_config
      have answer := adjustPort_of_other good (.inr ((value _).trans headroom)) no_enable applied kept
      rw [restartSilence_eq] at answer
      exact served (reached.trans answer)
    · have no_enable : ¬ (pairValue pairs .enabled = some 1 ∧ h.ports[p].link = .disabled) :=
        fun both => asks (mem_of_pairValue both.1)
      have applied : adjustApply p pairs h = written := by
        by_cases zero : pairValue pairs .enabled = some 0
        · exact adjustApply_of_disabled disabled zero
        · refine (adjustApply_of_write no_enable zero).trans (restartSilence_of_stopped pairs ?_)
          rw [modPort_self]
          exact stopped
      exact served (reached.trans (adjustPort_of_other good (.inl disabled) no_enable applied modPort_config))

/-- Settles O38: two cases of PORT-ADJUST. -/
theorem enableAndDisableAskForAChange : Obligations.EnableAndDisableAskForAChange := by
  intro tag port s accepts
  have pairs (n : Nat) (low : Byte) (value : low.toNat = n) : adjustPairs [1, 0, low] = some [(.enabled, n)] := by
    rw [adjustPairs_cons, ← value]
    simp [fieldTable, adjustPairs]
  have enabling {t : State} {r : List Byte} (owner : portAdjust [port, 1, 0, 1] (hunted s) = (t, ⟨.ok, r⟩)) :
      exec (.enable tag port) s = performed 0x21 tag (0x00 :: r) t :=
    exec_of_owner (m := ⟨0x21, tag, [port, 1, 0, 1]⟩) rfl accepts rfl owner
  have disabling {t : State} {r : List Byte} (owner : portAdjust [port, 1, 0, 0] (hunted s) = (t, ⟨.ok, r⟩)) :
      exec (.disable tag port) s = performed 0x21 tag (0x00 :: r) t :=
    exec_of_owner (m := ⟨0x21, tag, [port, 1, 0, 0]⟩) rfl accepts rfl owner
  constructor
  · intro large
    exact ⟨exec_of_refusal (m := ⟨0x21, tag, [port, 1, 0, 1]⟩) rfl accepts rfl (portAdjust_of_bad (.inl large)),
      exec_of_refusal (m := ⟨0x21, tag, [port, 1, 0, 0]⟩) rfl accepts rfl (portAdjust_of_bad (.inl large))⟩
  · intro p number u h config written answers
    have on := portAdjust_of_pairs (s := h) number (pairs 1 1 rfl)
    have off := portAdjust_of_pairs (s := h) number (pairs 0 0 rfl)
    have good (n : Nat) (bit : n ≤ 1) : adjustBad p [(.enabled, n)] = false := by
      simp [adjustBad, pairsInRange, ConfigField.onPort, ConfigField.inRange, bit]
    constructor
    · by_cases disabled : u.link = .disabled
      · rw [if_neg (not_not.mpr disabled)]
        have enables := adjustPort_of_enable (s := h) (pairs := [(.enabled, 1)]) (config := config true) rfl
          (good 1 le_rfl) disabled rfl
        rw [enableCheck_hunted] at enables
        cases check : enableCheck s p u.config.headroomCells with
        | some st =>
          have same : enableCheck s p (config true).headroomCells = some st := check
          rw [same] at enables
          exact exec_of_refusal (m := ⟨0x21, tag, [port, 1, 0, 1]⟩) rfl accepts rfl (on.trans enables)
        | none =>
          have same : enableCheck s p (config true).headroomCells = none := check
          rw [same] at enables
          exact enabling (on.trans enables)
      · rw [if_pos disabled]
        have applied : adjustApply p [(.enabled, 1)] h = written true := by
          refine (adjustApply_of_write (s := h) (fun both => disabled both.2) (by simp [pairValue])).trans ?_
          rw [restartSilence_eq]
          rfl
        have answer := adjustPort_of_other (s := h) (config := config true) (good 1 le_rfl) (.inr rfl)
          (fun both => disabled both.2) applied modPort_config
        exact enabling (on.trans answer)
    · have no_enable (l : LinkState) : ¬ (pairValue [(ConfigField.enabled, 0)] .enabled = some 1 ∧ l = .disabled) := by
        simp [pairValue]
      by_cases disabled : u.link = .disabled
      · rw [if_pos disabled]
        have answer := adjustPort_of_other (s := h) (config := config false) (good 0 (by omega)) (.inl disabled)
          (no_enable _) (adjustApply_of_disabled disabled rfl) modPort_config
        exact disabling (off.trans answer)
      · rw [if_neg disabled]
        have kept : (settle h (disablePort p (written false))).ports[p].config = config false := by
          rw [disablePort_config, modPort_config]
        have answer := adjustPort_of_other (s := h) (good 0 (by omega)) (.inr rfl) (no_enable _)
          (adjustApply_of_disable disabled rfl) kept
        exact disabling (off.trans answer)

end Sys2Proof.Machine

/-! PORT-QUERY, PORT-FAULTS, PORT-RELEASE and the end of the hold-down (R103, R127, R128, R130). -/

namespace Sys2Proof.Machine

open Sys2Proof Sys2Proof.Safety

/-! ### The reports of a port -/

theorem capture_bytes_eq (c : Capture) :
    c.bytes =
      bytesOf 1 c.cause.code ++ bytesOf 6 c.timestamp.toNat ++ bytesOf 1 c.stateAtFault.code ++
        bytesOf 2 c.errorCount ++ bytesOf 1 c.flapCount ++ [if c.barred = true then 1 else 0] ++
        bytesOf 2 c.copiesFlushed ++ bytesOf 2 c.copiesRehomed ++
        [if c.unread = true then 1 else 0, if c.overwritten = true then 1 else 0] := by
  have flag (b : Bool) : bytesOf 1 (yesNo b) = [if b = true then 1 else 0] := by cases b <;> rfl
  simp only [Capture.bytes, flag, List.append_assoc, List.cons_append, List.nil_append]

/-- Table 10-10: the observed status. -/
theorem statusBytes_eq (s : State) (p : Port) :
    statusBytes s p =
      bytesOf 1 s.ports[p].link.code ++ bytesOf 1 (healthCode s.ports[p] s.relief.paced[p]) ++
        [s.ports[p].latched, if s.ports[p].lineGood = true then 1 else 0] ++
        bytesOf 2 s.ports[p].errorCount ++ bytesOf 4 s.ports[p].beaconsSent.toNat ++
        bytesOf 4 s.ports[p].beaconsReceived.toNat ++
        [match s.ports[p].lastBeacon with | some n => BitVec.ofNat 8 n.val | none => 0xFF] ++
        bytesOf 4 s.ports[p].gapCount.toNat ++ bytesOf 4 s.ports[p].breaksReceived.toNat ++
        [if s.ports[p].quiet = true then 1 else 0, if s.relief.paced[p] = true then 1 else 0,
          if s.ports[p].peerPause.isSome = true then 1 else 0] ++
        bytesOf 2 (s.ports[p].peerPause.getD 0) ++ bytesOf 1 (headroomInUse s p) ++
        bytesOf 1 s.ports[p].flapCount ++ bytesOf 2 ((s.ports[p].holddown.getD 0 + 999) / 1000) ++
        bytesOf 4 s.forwarding.filtered[p].toNat ++ bytesOf 4 s.ports[p].spoof.toNat := by
  have flag (b : Bool) : bytesOf 1 (yesNo b) = [if b = true then 1 else 0] := by cases b <;> rfl
  have beacon (x : Option (Fin 4)) :
      bytesOf 1 ((x.map Fin.val).getD 0xFF) = [match x with | some n => BitVec.ofNat 8 n.val | none => 0xFF] := by
    cases x <;> simp [bytesOf_one]
  have ceil (n : Nat) : ceilDiv n 1000 = (n + 999) / 1000 := rfl
  simp only [statusBytes, flag, beacon, ceil, bytesOf_one_toNat, List.append_assoc, List.cons_append, List.nil_append]

theorem config_bytes_length (c : PortConfig) : c.bytes.length = 20 := by
  simp only [PortConfig.bytes, List.length_append, length_bytesOf]

theorem statusBytes_length (s : State) (p : Port) : (statusBytes s p).length = 40 := by
  simp only [statusBytes, List.length_append, length_bytesOf]

theorem faultsBytes_eq (u : PortUnit) :
    faultsBytes u =
      bytesOf 2 u.captureCount.toNat ++
        (match u.capture with
          | some c => 1 :: c.bytes
          | none => 0 :: List.replicate 18 0) ++
        bytesOf 1 u.flapCount ++ bytesOf 2 ((u.flapWindow.getD 0 + 999999) / 1000000) ++
        bytesOf 1 u.holddownStep ++ bytesOf 2 (u.steady.getD 0 / 1000) ++
        bytesOf 2 ((u.holddown.getD 0 + 999) / 1000) := by
  have window (n : Nat) : ceilDiv n 1000000 = (n + 999999) / 1000000 := rfl
  have ceil (n : Nat) : ceilDiv n 1000 = (n + 999) / 1000 := rfl
  simp only [faultsBytes, window, ceil]
  cases u.capture <;> simp [yesNo, bytesOf_one]

/-- Settles O40. -/
theorem portReportsClearWhatTheyShow : Obligations.PortReportsClearWhatTheyShow := by
  refine ⟨fun c => ?_, capture_bytes_eq, fun s p => ?_, fun tag port s accepts => ⟨fun large => ?_, ?_⟩⟩
  · rfl
  · intro u flag conditions health
    rw [statusBytes_eq, healthCode_eq] <;> rfl
  · constructor
    · refine exec_of_refusal (m := ⟨0x22, tag, [port]⟩) rfl accepts rfl ?_
      exact (show portQuery [port] (hunted s) = _ by simp only [portQuery, field_first, portOf?_of_large large])
    · refine exec_of_refusal (m := ⟨0x24, tag, [port]⟩) rfl accepts rfl ?_
      exact (show portFaults [port] (hunted s) = _ by simp only [portFaults, field_first, portOf?_of_large large])
  · intro p number u
    refine ⟨?_, config_bytes_length _, statusBytes_length s p, ?_⟩
    · refine exec_of_owner (m := ⟨0x22, tag, [port]⟩)
        (t := modPort p (fun u => { u with latched := 0 }) (hunted s))
        (a := ⟨.ok, u.config.bytes ++ statusBytes s p⟩) rfl accepts rfl ?_
      exact (show portQuery [port] (hunted s) = _ by
        simp only [portQuery, field_first, portOf?_of_val number]; rfl)
    · have served := exec_of_owner (i := .portFaults tag [port]) (m := ⟨0x24, tag, [port]⟩) (s := s)
        (t := modPort p (fun u => { u with capture := u.capture.map fun c => { c with unread := false } }) (hunted s))
        (a := ⟨.ok, faultsBytes u⟩) rfl accepts rfl
        (show portFaults [port] (hunted s) = _ by simp only [portFaults, field_first, portOf?_of_val number]; rfl)
      rw [faultsBytes_eq] at served
      exact served

theorem occurs_of_due {due : Bool} (h : due = true) (event : State → State) (s : State) :
    occurs due event s = .next (event s) := by
  rw [occurs, if_pos h]

/-! ### The ways out of FENCED and BARRED -/

/-- Settles O41. -/
theorem releaseAndHolddownLeadToDown : Obligations.ReleaseAndHolddownLeadToDown := by
  intro tag port p s u h
  have known (number : port.toNat = p.val) (t : State) :
      portRelease [port] t =
        if t.ports[p].link = .barred then (settle t (releasePort p t), ⟨.ok, []⟩) else refuse .state t := by
    simp only [portRelease, field_first, portOf?_of_val number]
  refine ⟨fun accepts large => ?_, fun accepts number other => ?_, fun accepts number barred => ?_,
    fun fenced ended => ?_⟩
  · refine exec_of_refusal (m := ⟨0x23, tag, [port]⟩) rfl accepts rfl ?_
    exact (show portRelease [port] (hunted s) = _ by simp only [portRelease, field_first, portOf?_of_large large])
  · refine exec_of_refusal (m := ⟨0x23, tag, [port]⟩) rfl accepts rfl ?_
    exact (known number h).trans (if_neg other)
  · have released : releasePort p h = entersDown p
        { u with
          flapCount := 0, holddownStep := 0, errorCount := 0
          errorWindow := some (u.config.errorWindowMs * 1000) } h := by
      rw [releasePort, startErrorWindow, modPort_modPort]
      exact enterDown_modPort p _ h
    rw [← released]
    exact exec_of_owner (m := ⟨0x23, tag, [port]⟩) (a := ⟨.ok, []⟩) rfl accepts rfl
      ((known number h).trans (if_pos barred))
  · have arrival : exec (.holddownExpiry p) s =
        occurs (u.link == .fenced && elapsed u.holddown) (fun s => conclude s (endHolddown p s)) s := rfl
    have entered : endHolddown p s = entersDown p { u with holddown := none } s := enterDown_modPort p _ s
    have due : (u.link == .fenced && elapsed u.holddown) = true := by
      rw [fenced, ended]
      rfl
    rw [arrival, occurs_of_due due, entered]

end Sys2Proof.Machine

/-! Line events and timers of the ports (R106 to R113, R120, R121, R125, R126). -/

namespace Sys2Proof.Machine

open Sys2Proof Sys2Proof.Safety

/-! ### Beacons -/

/-- The unit written, given as a value. -/
theorem modPort_eq_const (p : Port) (f : PortUnit → PortUnit) (s : State) :
    modPort p f s = modPort p (fun _ => f s.ports[p]) s :=
  rfl

/-- Two writes of a port that give its unit the same value. -/
theorem modPort_congr {p : Port} {f g : PortUnit → PortUnit} {s : State} (h : f s.ports[p] = g s.ports[p]) :
    modPort p f s = modPort p g s := by
  rw [modPort_eq_const p f, h, ← modPort_eq_const p g]

/-- R108: a beacon is a gap where it does not follow the reference. -/
theorem isGap_iff (reference : Option (Fin 4)) (count : Fin 4) :
    isGap reference count = true ↔ reference ≠ none ∧ reference ≠ some (count - 1) := by
  cases reference with
  | none => simp [isGap]
  | some r =>
    have follows : (count ≠ r + 1) ↔ r ≠ count - 1 := by
      revert r count
      decide
    simpa [isGap] using follows

theorem arrive_of_trunk {p : Port} (trunk : 32 ≤ p.val) (s : State) :
    arrive p s = modPort p (fun u => { u with reception := none }) s := by
  have low : ¬ p.val < 32 := by omega
  rw [arrive_eq]
  simp only [low, false_and, if_false]

/-- R108: a beacon counted and shown. -/
theorem countBeacon_arrive {p : Port} (trunk : 32 ≤ p.val) (count : Fin 4) (s : State) :
    countBeacon p count (arrive p s) =
      modPort p (fun _ => { s.ports[p] with
        reception := none, beaconsReceived := s.ports[p].beaconsReceived + 1, lastBeacon := some count }) s := by
  rw [arrive_of_trunk trunk, countBeacon, modPort_modPort, modPort_eq_const]

/-- R108: a beacon checked. -/
theorem checkBeacon_shown (p : Port) (count : Fin 4) (v : PortUnit) (s : State) :
    checkBeacon p count (modPort p (fun _ => v) s) =
      if isGap v.reference count = true then
        errorEvent p (modPort p (fun _ => { v with
          reference := some count, silence := if v.link = .up then some 0 else v.silence
          gapCount := v.gapCount + 1 }) s)
      else
        modPort p (fun _ => { v with
          reference := some count, silence := if v.link = .up then some 0 else v.silence }) s := by
  simp only [checkBeacon, modPort_self, modPort_modPort]
  cases isGap v.reference count <;> rfl

theorem beaconArrival_of_discarded {p : Port} (count : Fin 4) {s : State}
    (h : p.val < 32 ∨ s.ports[p].link = .disabled ∨ beaconLost s p) : beaconArrival p count s = arrive p s := by
  refine if_pos ?_
  obtain station | disabled | lost := h
  · simp [(isStation_iff p).mpr station]
  · simp [disabled, -Fin.getElem_fin]
  · simp [(beaconCut_iff s p).mpr lost]

theorem beaconArrival_of_taken {p : Port} (count : Fin 4) {s : State} (trunk : 32 ≤ p.val) (kept : ¬ beaconLost s p)
    (enabled : s.ports[p].link ≠ .disabled) :
    beaconArrival p count s =
      if s.ports[p].link = .up ∨ s.ports[p].link = .probing then checkBeacon p count (countBeacon p count (arrive p s))
      else countBeacon p count (arrive p s) := by
  have takes : (isStation p || s.ports[p].link == .disabled || beaconCut (receptionOf s p) s.now) = false := by
    have uncut := mt (beaconCut_iff s p).mp kept
    simp [(not_isStation_iff p).mpr trunk, enabled, uncut, -Fin.getElem_fin]
  simp only [beaconArrival, takes, Bool.false_eq_true, if_false]
  cases link : s.ports[p].link <;> simp

/-- R107: the next beacon, on a busy line and on an idle one. -/
theorem nextBeacon_eq (p : Port) (s : State) :
    nextBeacon p s =
      if lineBusy s p = true then
        modPort p (fun _ => { s.ports[p] with
          rollingCount := s.ports[p].rollingCount + 1, beaconsSent := s.ports[p].beaconsSent + 1
          beaconTimer := some (s.ports[p].config.beaconMs * 1000)
          waitingBeacon := some s.ports[p].rollingCount }) s
      else
        { modPort p (fun _ => { s.ports[p] with
            rollingCount := s.ports[p].rollingCount + 1, beaconsSent := s.ports[p].beaconsSent + 1
            beaconTimer := some (s.ports[p].config.beaconMs * 1000) }) s with
          lineOut := s.lineOut ++ [.beacon p s.ports[p].rollingCount] } := by
  simp only [nextBeacon, handBeacon, lineBusy_congr (modPort_buffer _ _ _)]
  split_ifs with busy
  · simp only [modPort_modPort]
    rw [modPort_eq_const]
    rfl
  · have sent (f : PortUnit → PortUnit) (o : LineOut) (t : State) : modPort p f (emit o t) = emit o (modPort p f t) := rfl
    simp only [sent, modPort_modPort]
    rw [modPort_eq_const]
    rfl

/-- Settles O42: the counting, the check and the sending of beacons, each by its event. -/
theorem beaconsAreCountedCheckedAndSent : Obligations.BeaconsAreCountedCheckedAndSent := by
  intro p count s u arrived counted gap checked shows
  have arrival {t : State} (h : beaconArrival p count s = t) :
      exec (.beaconReceived p count) s = .next (conclude s t) := by
    rw [← h]
    rfl
  have gaps : isGap u.reference count = true ↔ gap := isGap_iff _ _
  have checks (trunk : 32 ≤ p.val) (kept : ¬ beaconLost s p) (link : u.link = .probing ∨ u.link = .up) :
      beaconArrival p count s = checkBeacon p count (shows counted) := by
    have enabled : u.link ≠ .disabled := by
      rintro disabled
      rw [disabled] at link
      obtain link | link := link <;> cases link
    rw [beaconArrival_of_taken count trunk kept enabled, if_pos link.symm, countBeacon_arrive trunk]
  refine ⟨fun lost => arrival (beaconArrival_of_discarded count lost), fun trunk kept link => arrival ?_,
    fun trunk kept link follows => arrival ?_, fun trunk kept link missed => arrival ?_, fun elapsed => ?_⟩
  · have idle : u.link ≠ .disabled ∧ ¬ (u.link = .up ∨ u.link = .probing) := by
      obtain link | link | link := link <;> simp [link]
    rw [beaconArrival_of_taken count trunk kept idle.1, if_neg idle.2, countBeacon_arrive trunk]
  · rw [checks trunk kept link, checkBeacon_shown, if_neg (mt gaps.mp follows)]
    simp only [checked, if_neg follows]
    rfl
  · rw [checks trunk kept link, checkBeacon_shown, if_pos (gaps.mpr missed)]
    simp only [checked, if_pos missed]
    rfl
  · have due : Machine.elapsed u.beaconTimer = true := by
      rw [elapsed]
      rfl
    have arm : exec (.beaconTimerExpiry p) s = occurs (Machine.elapsed u.beaconTimer) (nextBeacon p) s := rfl
    rw [arm, occurs_of_due due, nextBeacon_eq]

/-! ### Error events and the timers -/

/-- R106: an error event, in UP at the threshold and otherwise. -/
theorem errorEvent_eq (p : Port) (s : State) :
    errorEvent p s =
      if s.ports[p].link = .up ∧ s.ports[p].config.errorThreshold ≤ min 65535 (s.ports[p].errorCount + 1) then
        fence p .errorBurst (modPort p (fun u => { u with errorCount := min 65535 (s.ports[p].errorCount + 1) }) s)
      else modPort p (fun u => { u with errorCount := min 65535 (s.ports[p].errorCount + 1) }) s := by
  simp only [errorEvent, modPort_self]
  rfl

theorem elapsed_of_zero {t : Countdown} (h : t = some 0) : elapsed t = true := by
  rw [h]
  rfl

/-- Settles O43: each timer by its event. -/
theorem errorQuietSteadyAndFlapTimersEnd : Obligations.ErrorQuietSteadyAndFlapTimersEnd := by
  constructor
  · intro p s u n raised
    refine ⟨fun ended => ?_, fun up reached => ?_, fun low => ?_⟩
    · exact occurs_of_due (elapsed_of_zero ended) (nextErrorWindow p) s
    · rw [errorEvent_eq, if_pos ⟨up, reached⟩]
    · rw [errorEvent_eq, if_neg]
      rintro ⟨up, reached⟩
      obtain other | small := low
      · exact other up
      · exact absurd reached (Nat.not_le.mpr small)
  · intro p e s u
    refine ⟨fun ended => ?_, fun runs long => ?_, fun ended => ?_⟩
    · exact occurs_of_due (elapsed_of_zero ended) (fun s => conclude s (becomeQuiet p s)) s
    · have due : steadyDue u = true := by
        simp only [steadyDue, runs]
        exact decide_eq_true long
      exact occurs_of_due due (completeSteady p) s
    · exact occurs_of_due (elapsed_of_zero ended) (closeFlapWindow p) s

/-! ### Received breaks -/

theorem breakDue_of_due {u : PortUnit} (h : u.receivedBreak = some { left := 0, detected := false }) :
    breakDue u = true := by
  rw [breakDue, h]
  rfl

/-- R112: a received break detected: counted except in DISABLED, and in UP a fault. -/
theorem detectBreak_eq {p : Port} {s : State} {n : Nat}
    (h : s.ports[p].receivedBreak = some { left := n, detected := false }) :
    detectBreak p s =
      if s.ports[p].link = .up then
        fence p .peerBreak
          (modPort p (fun u => { u with
            breaksReceived := u.breaksReceived + 1, receivedBreak := some { left := n, detected := true } }) s)
      else
        modPort p (fun u => { u with
          breaksReceived := if u.link = .disabled then u.breaksReceived else u.breaksReceived + 1
          receivedBreak := some { left := n, detected := true } }) s := by
  simp only [detectBreak, modPort_modPort]
  cases link : s.ports[p].link
  case up => exact congrArg (fence p .peerBreak) (modPort_congr (by rw [h]; rfl))
  all_goals
    rw [if_neg (by decide)]
    refine modPort_congr ?_
    simp only [h, link, Option.map_some]
    rfl

/-- Settles O48: the begin and the end of a break, by its length. -/
theorem breaksAreMeasuredAndCounted : Obligations.BreaksAreMeasuredAndCounted := by
  intro p s u
  refine ⟨fun silent => ?_, fun ended other => ?_, fun b lasts ends => ?_, fun ended => ?_, fun sent => ?_⟩
  · refine occurs_of_due ?_ (modPort p fun u => { u with receivedBreak := some { left := breakUs, detected := false } }) s
    rw [silent]
    rfl
  · refine (occurs_of_due (breakDue_of_due ended) (fun s => conclude s (detectBreak p s)) s).trans ?_
    rw [detectBreak_eq ended, if_neg other]
  · have due : u.receivedBreak.isSome = true := by
      rw [lasts]
      rfl
    have spent : breakDue u = false := by
      simp only [breakDue, lasts, Bool.and_eq_false_iff, beq_eq_false_iff_ne, Bool.not_eq_false']
      obtain detected | running := ends
      · exact .inr detected
      · exact .inl (by omega)
    refine (occurs_of_due due (fun s => conclude s (endReceivedBreak p s)) s).trans ?_
    rw [endReceivedBreak, spent]
    rfl
  · have due : u.receivedBreak.isSome = true := by
      rw [ended]
      rfl
    have detects : breakDue u = true := breakDue_of_due ended
    intro counted
    refine (occurs_of_due due (fun s => conclude s (endReceivedBreak p s)) s).trans ?_
    have after : detectBreak p s = if u.link = .up then fence p .peerBreak counted else counted := by
      rw [detectBreak_eq ended]
      refine ite_congr rfl (fun up => congrArg (fence p .peerBreak) (modPort_congr ?_)) fun _ => rfl
      have enabled : ¬ u.link = .disabled := by
        rw [up]
        decide
      rw [if_neg enabled]
    rw [endReceivedBreak, if_pos detects, after]
  · refine (occurs_of_due (elapsed_of_zero sent) (endBreak p) s).trans ?_
    simp only [endBreak, show s.ports[p].breakTimer = some 0 from sent]
    rfl

/-! ### Faults in UP and line-good -/

/-- Settles O46: each monitor by its event. -/
theorem faultsInUpFenceThePort : Obligations.FaultsInUpFenceThePort := by
  intro p e s u
  refine ⟨fun up runs long => ?_, fun up ended => ?_, fun up good => ?_⟩
  · have due : silenceDue u = true := by
      have limit : silenceLimit u ≤ e := long
      simp only [silenceDue, runs, up, limit, beq_self_eq_true, decide_true, Bool.and_self]
    exact occurs_of_due due (fun s => conclude s (fence p .silent s)) s
  · refine (occurs_of_due (breakDue_of_due ended) (fun s => conclude s (detectBreak p s)) s).trans ?_
    rw [detectBreak_eq ended, if_pos up]
  · refine (occurs_of_due good (fun s => conclude s (dropLine p s)) s).trans ?_
    simp only [dropLine, show s.ports[p].link = .up from up]
    rfl

/-- R140: the withdrawal, as the statements write it. -/
theorem withdraw_eq_withdrawn (p : Port) (s : State) : withdraw p s = withdrawn p s := by
  have other : (fun r : MeasureRequest => decide (r.port ≠ p)) = fun r => r.port != p := by
    funext r
    simp [bne, Bool.beq_eq_decide_eq]
  simp only [withdraw, withdrawn, other]

/-- R120: the entry to PROBING files the port's recovery request, its host request withdrawn. -/
theorem enterProbing_eq (p : Port) (s : State) :
    enterProbing p s =
      beginMeasurement
        { withdrawn p s with
          ports := s.ports.set p { s.ports[p] with
            link := .probing, reference := none, qualification := none
            reception := s.ports[p].reception.map fun r => { r with changed := true }
            presentRequest := some s.measurement.filed }
          measurement := { (withdrawn p s).measurement with
            recovery := (withdrawn p s).measurement.recovery ++
              [{ id := s.measurement.filed, port := p, origin := .recovery, filed := .probing }]
            filed := s.measurement.filed + 1 }
          link := { (withdrawn p s).link with notices := changed (withdrawn p s).link.notices p } } := by
  have entered : modPort p (fun u => { u with reference := none, qualification := none }) (setLink p .probing s) =
      raisePortChange p (modPort p (fun u => { u with
        link := .probing, reference := none, qualification := none
        reception := u.reception.map fun r => { r with changed := true } }) s) := by
    have raised (f : PortUnit → PortUnit) (t : State) :
        modPort p f (raisePortChange p t) = raisePortChange p (modPort p f t) := rfl
    rw [setLink, raised, modPort_modPort]
  have withdraws (f : PortUnit → PortUnit) :
      withdrawn p (raisePortChange p (modPort p f s)) = raisePortChange p (modPort p f (withdrawn p s)) := by
    have same : (raisePortChange p (modPort p f s)).measurement = s.measurement := rfl
    rw [withdrawn, withdrawn, same]
    split_ifs <;> rfl
  have ports : (withdrawn p s).ports = s.ports := by
    rw [← withdraw_eq_withdrawn]
    simp
  have filed : (withdrawn p s).measurement.filed = s.measurement.filed := by
    rw [← withdraw_eq_withdrawn]
    simp
  simp only [enterProbing, fileRecovery, withdraw_eq_withdrawn, entered, withdraws]
  generalize withdrawn p s = w at ports filed ⊢
  refine congrArg beginMeasurement (state_ext rfl rfl rfl rfl rfl ?_ ?_ rfl rfl rfl rfl rfl rfl)
  · rw [← ports, ← filed]
    simp [modPort, raisePortChange, modNotices]
  · rw [← filed]
    rfl

/-- Settles O47: each change of the line by its event. -/
theorem lineGoodDrivesQualification : Obligations.LineGoodDrivesQualification := by
  intro p s u low spoiled
  have drop {t : State} (good : u.lineGood = true) (h : dropLine p s = t) :
      exec (.lineGoodDrop p) s = .next (conclude s t) := by
    rw [← h]
    exact occurs_of_due good (fun s => conclude s (dropLine p s)) s
  refine ⟨fun good link => drop good ?_, fun good down => drop good ?_, fun good probing => drop good ?_,
    fun bad => ?_, fun down ended => ?_⟩
  · obtain link | link | link := link
    all_goals
      simp only [dropLine, show s.ports[p].link = _ from link]
      rfl
  · simp only [dropLine, show s.ports[p].link = _ from down]
    rfl
  · have unit : (withdrawn p spoiled).ports[p] = { u with lineGood := false } := by
      rw [← withdraw_eq_withdrawn]
      have ports : (withdraw p spoiled).ports = low.ports := by simp [spoiled]
      rw [ports, modPort_self]
    simp only [dropLine, show s.ports[p].link = _ from probing]
    rw [enterDown_eq, withdraw_eq_withdrawn]
    exact congrArg (fun v => entersDown p v (withdrawn p spoiled)) unit
  · have due : (!u.lineGood) = true := by rw [bad]; rfl
    refine (occurs_of_due due (raiseLine p) s).trans (congrArg Host.Outcome.next ?_)
    simp only [raiseLine, startQualification, modPort_modPort]
    split_ifs with down
    · exact modPort_congr (by rw [if_pos down]; rfl)
    · exact modPort_congr (by rw [if_neg down])
  · intro w filed
    have due : (u.link == .down && elapsed u.qualification) = true := by
      rw [down, ended]
      rfl
    exact (occurs_of_due due (fun s => conclude s (enterProbing p s)) s).trans
      (congrArg (fun t => Host.Outcome.next (conclude s t)) (enterProbing_eq p s))

end Sys2Proof.Machine

/-! The Measurement Engine: results, requests and the calibration (R134 to R141). -/

namespace Sys2Proof.Machine

open Sys2Proof Sys2Proof.Safety

/-! ### Results -/

/-- R139: a result takes the place of its port's earlier one and leaves the others. -/
theorem mem_placeResult_iff (r : MeasureResult) {rs : List MeasureResult}
    (ascending : rs.Pairwise fun x y => x.port.val < y.port.val) (x : MeasureResult) :
    x ∈ placeResult r rs ↔ x = r ∨ (x.port ≠ r.port ∧ x ∈ rs) := by
  induction rs with
  | nil => simp [placeResult]
  | cons y rs ih =>
    obtain ⟨after, ascending⟩ := List.pairwise_cons.mp ascending
    have apart {z : MeasureResult} (h : z ∈ rs) : z.port ≠ y.port := fun same => by
      have rises := after z h
      rw [same] at rises
      exact Nat.lt_irrefl _ rises
    simp only [placeResult]
    split_ifs with before same
    · have others : x ∈ y :: rs → x.port ≠ r.port := by
        intro member port
        rw [← port] at before
        obtain rfl | member := List.mem_cons.mp member
        · exact Nat.lt_irrefl _ before
        · exact Nat.lt_asymm before (after x member)
      rw [List.mem_cons]
      exact or_congr_right ⟨fun member => ⟨others member, member⟩, And.right⟩
    · rw [List.mem_cons, List.mem_cons]
      refine or_congr_right ⟨fun member => ⟨fun port => apart member (port.trans same), .inr member⟩, ?_⟩
      rintro ⟨other, rfl | member⟩
      · exact absurd same.symm other
      · exact member
    · rw [List.mem_cons, ih ascending, List.mem_cons]
      constructor
      · rintro (rfl | rfl | ⟨other, member⟩)
        · exact .inr ⟨fun port => same port.symm, .inl rfl⟩
        · exact .inl rfl
        · exact .inr ⟨other, .inr member⟩
      · rintro (rfl | ⟨other, rfl | member⟩)
        · exact .inr (.inl rfl)
        · exact .inl rfl
        · exact .inr (.inr ⟨other, member⟩)

/-- R138: the margin, held within 0 to 255. -/
theorem marginOf_eq (offset : Int) (lineBad : Bool) (raw : Byte) :
    marginOf offset lineBad raw =
      if (if lineBad = true then 0 else (raw.toNat : Int)) + offset < 0 then 0
      else if 255 < (if lineBad = true then 0 else (raw.toNat : Int)) + offset then 255
      else ((if lineBad = true then 0 else (raw.toNat : Int)) + offset).toNat := by
  simp only [marginOf]
  generalize (if lineBad = true then 0 else (raw.toNat : Int)) + offset = sum
  split_ifs <;> omega

theorem deliverResult_host {r : MeasureRequest} (host : r.origin = .host) (margin : Nat) (s : State) :
    deliverResult r margin s =
      raiseMeasureDone
        { port := r.port, outcome := .done (BitVec.ofNat 8 margin) (s.ports[r.port].link != r.filed) } s := by
  simp only [deliverResult, host]

theorem deliverResult_stale {r : MeasureRequest} {s : State} (recovery : r.origin = .recovery)
    (stale : s.ports[r.port].link ≠ .probing ∨ s.ports[r.port].presentRequest ≠ some r.id) (margin : Nat) :
    deliverResult r margin s = s := by
  simp only [deliverResult, recovery, takeResult]
  split_ifs with probing other passes
  · rfl
  · exact absurd probing (stale.resolve_right (not_not.mpr (not_not.mp other)))
  · exact absurd probing (stale.resolve_right (not_not.mpr (not_not.mp other)))
  · rfl

theorem deliverResult_present {r : MeasureRequest} {s : State} (recovery : r.origin = .recovery)
    (probing : s.ports[r.port].link = .probing) (present : s.ports[r.port].presentRequest = some r.id) (margin : Nat) :
    deliverResult r margin s =
      if s.ports[r.port].config.marginThreshold ≤ margin then entersUp r.port s else fence r.port .marginLow s := by
  simp only [deliverResult, recovery, takeResult]
  rw [if_pos probing, if_neg (not_not.mpr present), enterUp_eq]

/-- Settles O49. -/
theorem measurementDeliversItsResult : Obligations.MeasurementDeliversItsResult := by
  constructor
  · exact fun x s ascending => ⟨_, rfl, mem_placeResult_iff x ascending⟩
  · intro raw i s measured ended p u sum margin next done
    have due : measurementDue s = true := by
      simp only [measurementDue, measured, ended, beq_self_eq_true]
    have completes {t : State} (delivered : deliverResult i.request margin s = t) : done t := by
      refine (occurs_of_due due (fun s => conclude s (completeMeasurement raw s)) s).trans ?_
      have yields : marginOf s.measurement.offset i.lineBad raw = margin := marginOf_eq _ _ _
      simp only [completeMeasurement, measured, yields, delivered]
      rfl
    refine ⟨fun host => completes (deliverResult_host host margin s), fun recovery =>
      ⟨fun stale => completes (deliverResult_stale recovery stale margin), fun probing present => ?_⟩⟩
    have answers := deliverResult_present recovery probing present margin
    exact ⟨fun low => completes (answers.trans (if_neg (Nat.not_le.mpr low))),
      fun passes => completes (answers.trans (if_pos passes))⟩

/-! ### Requests -/

/-- R136: the requests ahead of a new one. -/
theorem requestsAhead_eq (s : State) :
    requestsAhead s = s.measurement.recovery.length + s.measurement.host.length +
      if s.measurement.inProgress = none then 0 else 1 := by
  cases idle : s.measurement.inProgress <;> simp [requestsAhead, idle, yesNo]

theorem lineMeasure_of_port {x : Byte} {p : Port} (number : x.toNat = p.val) (s : State) :
    lineMeasure [x] s =
      if s.ports[p].link = .disabled ∨ s.ports[p].link = .barred then refuse .state s
      else if (hasPending s p || isMeasured s p) = true then refuse .busy s
      else (fileHost p s, ⟨.accepted, bytesOf 1 (requestsAhead s)⟩) := by
  simp only [lineMeasure, field_first, portOf?_of_val number]

/-- R137: an engine that measures goes on; one that is IDLE takes the first request. -/
theorem beginMeasurement_of_busy {s : State} (busy : s.measurement.inProgress ≠ none) : beginMeasurement s = s := by
  obtain ⟨i, measured⟩ := Option.ne_none_iff_exists'.mp busy
  simp only [beginMeasurement, measured]

/-- Settles O50. -/
theorem measureRequestsAreFiledInOrder : Obligations.MeasureRequestsAreFiledInOrder := by
  constructor
  · intro tag x s accepts m
    refine ⟨fun large => ?_, fun p number => ?_, ?_⟩
    · refine exec_of_refusal (m := ⟨0x28, tag, [x]⟩) rfl accepts rfl ?_
      exact (show lineMeasure [x] (hunted s) = _ by simp only [lineMeasure, field_first, portOf?_of_large large])
    · intro r ahead
      have reached := lineMeasure_of_port number (hunted s)
      have count : requestsAhead (hunted s) = ahead := requestsAhead_eq s
      split_ifs with closed busy
      · exact exec_of_refusal (m := ⟨0x28, tag, [x]⟩) rfl accepts rfl (reached.trans (if_pos closed))
      all_goals replace reached := reached.trans (if_neg closed)
      · exact exec_of_refusal (m := ⟨0x28, tag, [x]⟩) rfl accepts rfl
          (reached.trans (if_pos (Bool.or_eq_true_iff.mpr busy)))
      · replace reached := reached.trans (if_neg (mt Bool.or_eq_true_iff.mp busy))
        rw [count, bytesOf_one] at reached
        exact exec_of_owner (m := ⟨0x28, tag, [x]⟩) (a := ⟨.accepted, [BitVec.ofNat 8 ahead]⟩) rfl accepts rfl reached
    · have reached : lineCalibrate [x] (hunted s) =
          if x.toInt < -31 ∨ 31 < x.toInt then refuse .value (hunted s)
          else if m.inProgress.isSome = true then refuse .busy (hunted s)
          else ({ hunted s with measurement := { m with offset := x.toInt } }, ⟨.ok, [offsetByte x.toInt]⟩) := rfl
      have busy : m.inProgress.isSome = true ↔ m.inProgress ≠ none := Option.isSome_iff_ne_none
      split_ifs with range measures
      · exact exec_of_refusal (m := ⟨0x29, tag, [x]⟩) rfl accepts rfl (reached.trans (if_pos range))
      all_goals replace reached := reached.trans (if_neg range)
      · exact exec_of_refusal (m := ⟨0x29, tag, [x]⟩) rfl accepts rfl (reached.trans (if_pos (busy.mpr measures)))
      · replace reached := reached.trans (if_neg (mt busy.mp measures))
        have same : offsetByte x.toInt = x := BitVec.ofInt_toInt
        rw [same] at reached
        exact exec_of_owner (m := ⟨0x29, tag, [x]⟩) (a := ⟨.ok, [x]⟩) rfl accepts rfl reached
  · intro s m starts
    refine ⟨beginMeasurement_of_busy, fun idle => ⟨fun r rest first => ?_, fun r rest empty first => ?_,
      fun noRecovery noHost => ?_⟩⟩
    · simp only [beginMeasurement, show s.measurement.inProgress = none from idle,
        show s.measurement.recovery = r :: rest from first]
      rfl
    · simp only [beginMeasurement, show s.measurement.inProgress = none from idle,
        show s.measurement.recovery = [] from empty, show s.measurement.host = r :: rest from first,
        show m.recovery = [] from empty]
      rfl
    · simp only [beginMeasurement, show s.measurement.inProgress = none from idle,
        show s.measurement.recovery = [] from noRecovery, show s.measurement.host = [] from noHost]

end Sys2Proof.Machine

/-! Billing's requests (R146, R147, R149, R150, R153, R155, R156): start, hold, resume, set, lock, close, stop and
drain; and what keeps the tariff lock. -/

namespace Sys2Proof.Machine

open Sys2Proof Sys2Proof.Safety

/-! ### The owner of billing's requests -/

theorem handRequest_billStart (body : List Byte) (s : State) : handRequest 0x30 body s = billStart body s := rfl

theorem handRequest_billStop (body : List Byte) (s : State) : handRequest 0x31 body s = billStop body s := rfl

theorem handRequest_billHold (body : List Byte) (s : State) : handRequest 0x32 body s = billHold body s := rfl

theorem handRequest_billResume (body : List Byte) (s : State) : handRequest 0x33 body s = billResume body s := rfl

theorem handRequest_billClose (body : List Byte) (s : State) : handRequest 0x34 body s = billClose body s := rfl

theorem handRequest_billSet (body : List Byte) (s : State) : handRequest 0x35 body s = billSet body s := rfl

theorem handRequest_billDrain (body : List Byte) (s : State) : handRequest 0x36 body s = billDrain body s := rfl

theorem handRequest_billLock (body : List Byte) (s : State) : handRequest 0x37 body s = billLock body s := rfl

/-! ### Start, hold and resume -/

/-- R146: BILL-START opens the next epoch. -/
theorem exec_billStart (tag : Byte) (s : State) (accepts : accepting s) :
    exec (.billStart tag []) s =
      if s.billing.state ≠ .stopped ∨ s.billing.epoch = 0xFFFFFFFF then refused 0x30 tag .state s
      else
        performed 0x30 tag (0x00 :: bytesOf 4 (s.billing.epoch + 1).toNat)
          (modBilling (fun b => { b with state := .running }) (openEpoch (hunted s))) := by
  have served {t : State} {rest : List Byte} (owner : billStart [] (hunted s) = (t, ⟨.ok, rest⟩)) :
      exec (.billStart tag []) s = performed 0x30 tag (0x00 :: rest) t :=
    exec_of_owner (i := .billStart tag []) (m := ⟨0x30, tag, []⟩) rfl accepts rfl ((handRequest_billStart ..).trans owner)
  have refuses {st : Status} (owner : billStart [] (hunted s) = refuse st (hunted s)) :
      exec (.billStart tag []) s = refused 0x30 tag st s :=
    exec_of_refusal (i := .billStart tag []) (m := ⟨0x30, tag, []⟩) rfl accepts rfl ((handRequest_billStart ..).trans owner)
  have reached : billStart [] (hunted s) =
      if s.billing.state ≠ .stopped ∨ s.billing.epoch = 0xFFFFFFFF then refuse .state (hunted s)
      else (modBilling (fun b => { b with state := .running }) (openEpoch (hunted s)),
        ⟨.ok, bytesOf 4 (s.billing.epoch + 1).toNat⟩) := rfl
  split_ifs with halts
  · exact refuses (reached.trans (if_pos halts))
  · exact served (reached.trans (if_neg halts))

/-- R147: BILL-HOLD switches the billing state. -/
theorem exec_billHold (tag : Byte) (s : State) (accepts : accepting s) :
    exec (.billHold tag []) s =
      if s.billing.state = .running then
        performed 0x32 tag [0x00] { hunted s with billing := { s.billing with state := .held } }
      else refused 0x32 tag .state s := by
  have served {t : State} {rest : List Byte} (owner : billHold [] (hunted s) = (t, ⟨.ok, rest⟩)) :
      exec (.billHold tag []) s = performed 0x32 tag (0x00 :: rest) t :=
    exec_of_owner (i := .billHold tag []) (m := ⟨0x32, tag, []⟩) rfl accepts rfl ((handRequest_billHold ..).trans owner)
  have refuses {st : Status} (owner : billHold [] (hunted s) = refuse st (hunted s)) :
      exec (.billHold tag []) s = refused 0x32 tag st s :=
    exec_of_refusal (i := .billHold tag []) (m := ⟨0x32, tag, []⟩) rfl accepts rfl ((handRequest_billHold ..).trans owner)
  have reached : billHold [] (hunted s) =
      if s.billing.state = .running then (modBilling (fun b => { b with state := .held }) (hunted s), ⟨.ok, []⟩)
      else refuse .state (hunted s) := rfl
  split_ifs with standing
  · exact served (reached.trans (if_pos standing))
  · exact refuses (reached.trans (if_neg standing))

/-- R147: BILL-RESUME switches the billing state. -/
theorem exec_billResume (tag : Byte) (s : State) (accepts : accepting s) :
    exec (.billResume tag []) s =
      if s.billing.state = .held then
        performed 0x33 tag [0x00] { hunted s with billing := { s.billing with state := .running } }
      else refused 0x33 tag .state s := by
  have served {t : State} {rest : List Byte} (owner : billResume [] (hunted s) = (t, ⟨.ok, rest⟩)) :
      exec (.billResume tag []) s = performed 0x33 tag (0x00 :: rest) t :=
    exec_of_owner (i := .billResume tag []) (m := ⟨0x33, tag, []⟩) rfl accepts rfl ((handRequest_billResume ..).trans owner)
  have refuses {st : Status} (owner : billResume [] (hunted s) = refuse st (hunted s)) :
      exec (.billResume tag []) s = refused 0x33 tag st s :=
    exec_of_refusal (i := .billResume tag []) (m := ⟨0x33, tag, []⟩) rfl accepts rfl ((handRequest_billResume ..).trans owner)
  have reached : billResume [] (hunted s) =
      if s.billing.state = .held then (modBilling (fun b => { b with state := .running }) (hunted s), ⟨.ok, []⟩)
      else refuse .state (hunted s) := rfl
  split_ifs with standing
  · exact served (reached.trans (if_pos standing))
  · exact refuses (reached.trans (if_neg standing))

/-- Settles O51: each request is its owner's, taken apart by the billing state. -/
theorem billStartHoldAndResumeSwitchTheState : Obligations.BillStartHoldAndResumeSwitchTheState :=
  ⟨exec_billStart, fun tag s accepts => ⟨exec_billHold tag s accepts, exec_billResume tag s accepts⟩⟩

/-! ### Room, close and stop -/

/-- R150: the free places hold the records of a close where places and records fit the queue. -/
theorem hasRoom_iff {s : State} (queue : s.billing.queue.length ≤ 256) :
    hasRoom s = true ↔ (definedTenants s).length + s.billing.queue.length ≤ 256 := by
  have places : hasRoom s = true ↔ (definedTenants s).length ≤ 256 - s.billing.queue.length := decide_eq_true_iff
  rw [places]
  omega

/-- Settles O53: the owners' checks, in their order. -/
theorem billCloseAndStopCloseTheEpoch : Obligations.BillCloseAndStopCloseTheEpoch := by
  intro tag s accepts room number queue
  have full_iff : (!hasRoom (hunted s)) = true ↔ ¬room := by
    rw [Bool.not_eq_true', ← Bool.not_eq_true]
    exact not_congr (hasRoom_iff (s := hunted s) queue)
  constructor
  · have served {t : State} {rest : List Byte} (owner : billClose [] (hunted s) = (t, ⟨.ok, rest⟩)) :
        exec (.billClose tag []) s = performed 0x34 tag (0x00 :: rest) t :=
      exec_of_owner (i := .billClose tag []) (m := ⟨0x34, tag, []⟩) rfl accepts rfl
        ((handRequest_billClose ..).trans owner)
    have refuses {st : Status} (owner : billClose [] (hunted s) = refuse st (hunted s)) :
        exec (.billClose tag []) s = refused 0x34 tag st s :=
      exec_of_refusal (i := .billClose tag []) (m := ⟨0x34, tag, []⟩) rfl accepts rfl
        ((handRequest_billClose ..).trans owner)
    have reached : billClose [] (hunted s) =
        if s.billing.state = .stopped then refuse .state (hunted s)
        else if (!hasRoom (hunted s)) = true then refuse .full (hunted s)
        else (closeEpoch false (hunted s), ⟨.ok, number⟩) := rfl
    rw [if_congr full_iff rfl rfl] at reached
    by_cases stopped : s.billing.state = .stopped
    · rw [if_pos stopped]
      exact refuses (reached.trans (if_pos stopped))
    replace reached := reached.trans (if_neg stopped)
    rw [if_neg stopped]
    by_cases full : ¬room
    · rw [if_pos full]
      exact refuses (reached.trans (if_pos full))
    · rw [if_neg full]
      exact served (reached.trans (if_neg full))
  · have served {t : State} {rest : List Byte} (owner : billStop [] (hunted s) = (t, ⟨.ok, rest⟩)) :
        exec (.billStop tag []) s = performed 0x31 tag (0x00 :: rest) t :=
      exec_of_owner (i := .billStop tag []) (m := ⟨0x31, tag, []⟩) rfl accepts rfl
        ((handRequest_billStop ..).trans owner)
    have refuses {st : Status} (owner : billStop [] (hunted s) = refuse st (hunted s)) :
        exec (.billStop tag []) s = refused 0x31 tag st s :=
      exec_of_refusal (i := .billStop tag []) (m := ⟨0x31, tag, []⟩) rfl accepts rfl
        ((handRequest_billStop ..).trans owner)
    have reached : billStop [] (hunted s) =
        if s.billing.state = .stopped then refuse .state (hunted s)
        else if s.billing.lock = true then refuse .locked (hunted s)
        else if (!hasRoom (hunted s)) = true then refuse .full (hunted s)
        else (closeEpoch true (hunted s), ⟨.ok, number⟩) := rfl
    rw [if_congr full_iff rfl rfl] at reached
    by_cases stopped : s.billing.state = .stopped
    · rw [if_pos stopped]
      exact refuses (reached.trans (if_pos stopped))
    replace reached := reached.trans (if_neg stopped)
    rw [if_neg stopped]
    by_cases locked : s.billing.lock = true
    · rw [if_pos locked]
      exact refuses (reached.trans (if_pos locked))
    replace reached := reached.trans (if_neg locked)
    rw [if_neg locked]
    by_cases full : ¬room
    · rw [if_pos full]
      exact refuses (reached.trans (if_pos full))
    · rw [if_neg full]
      exact served (reached.trans (if_neg full))

/-! ### The tariff lock -/

theorem lock_of_bare {b b' : Billing} (same : bare b' = bare b) : b'.lock = b.lock :=
  (congrArg Billing.lock same : (bare b').lock = (bare b).lock)

@[simp] theorem closeEpoch_lock (stop : Bool) (s : State) : (closeEpoch stop s).billing.lock = s.billing.lock := by
  have settings (u : State) : (applyStagedSettings u).billing.lock = u.billing.lock := by
    simp only [applyStagedSettings, modBilling_billing]
    split <;> rfl
  simp only [closeEpoch, raiseEpochClosed_keeps]
  split_ifs
  · exact (settings _).trans rfl
  · exact (settings _).trans rfl

/-- R148: a tick leaves the lock. -/
@[simp] theorem epochTickEvent_lock (s : State) : (epochTickEvent s).billing.lock = s.billing.lock := by
  have sample : (sampled s).billing.lock = s.billing.lock := lock_of_bare (b := { s.billing with
    tickElapsed := s.billing.tickElapsed - s.billing.tickSelect.micros }) (sampled_bare s)
  rw [epochTickEvent_eq]
  split_ifs
  · simp only [expireEpoch]
    split_ifs
    · rw [closeEpoch_lock]
      exact sample
    · exact sample
  · exact sample
  · exact sample

theorem locked_passTimers (n : Nat) {s : State} (h : s.billing.lock = true) :
    (passTimers n s).billing.lock = true := h

/-- R156: only a restart clears the tariff lock. -/
theorem kept_locked : Kept (fun s => s.billing.lock = true) False := by
  have same {s t : State} (h : s.billing.lock = true) (eq : bare t.billing = bare s.billing) :
      t.billing.lock = true := by
    rwa [lock_of_bare eq]
  constructor
  case restarted => exact fun never => never.elim
  case tenantDefine =>
    intro body s h
    refine same h ?_
    simp only [tenantDefine, refuse]
    split
    · rfl
    · split_ifs
      · rfl
      · rfl
      · rfl
      · simp
  case tenantRemove =>
    intro body s h
    simp only [tenantRemove, refuse]
    split
    · exact h
    · split_ifs
      · exact h
      · split
        · exact h
        · simp only [removeTenant]
          split_ifs <;> exact h
  case billStart | billHold | billResume =>
    intro body s h
    simp only [billStart, billHold, billResume, refuse]
    split_ifs <;> exact h
  case billSet =>
    intro body s h
    simp only [billSet, refuse, applySettings, modBilling]
    repeat' split
    all_goals exact h
  case billLock => exact fun _ _ _ => rfl
  case billClose | billStop =>
    intro body s h
    simp only [billClose, billStop, refuse]
    split_ifs <;> simpa using h
  case billDrain =>
    intro body s h
    simp only [billDrain, refuse]
    split_ifs
    · exact h
    · exact (closeEpoch_lock ..).trans h
    · exact h
  case ticks => exact fun _ h => (epochTickEvent_lock _).trans h
  case passes =>
    intro n s h
    exact locked_passTimers n (same h (chargePacing_bare n s))
  all_goals
    intros
    have h := ‹Billing.lock _ = true›
    exact same h (by simp)

/-! ### Settings -/

theorem tickSelectOf?_code (sel : TickSelect) : tickSelectOf? sel.code = some sel := by
  cases sel <;> rfl

theorem tickSelectOf?_of_large {n : Nat} (h : 3 < n) : tickSelectOf? n = none := by
  rw [tickSelectOf?, if_neg (by omega), if_neg (by omega), if_neg (by omega), if_neg (by omega)]

/-- R149: BILL-SET once its tick select is read. -/
theorem billSet_of_select {body : List Byte} {sel : TickSelect} (select : tickSelectOf? (field body 0 1) = some sel)
    (s : State) :
    billSet body s =
      if field body 1 2 = 0 then refuse .value s
      else if s.billing.overdue then refuse .state s
      else if s.billing.lock ∧ s.billing.state ≠ .stopped then
        (modBilling (fun b => { b with staged := some (sel, field body 1 2) }) s, ⟨.staged, []⟩)
      else (applySettings sel (field body 1 2) s, ⟨.ok, []⟩) := by
  simp only [billSet, select]

/-- Settles O54: the owner's checks in their order; the lock by the invariant that every operation but a restart
keeps. -/
theorem billSetAndLockAnswer : Obligations.BillSetAndLockAnswer := by
  refine ⟨fun tag body s accepts len => ?_, fun tag s accepts => ?_, fun c s t kept answers locked => ?_⟩
  · have allowed : lengthAllowed? 0x35 body.length = some true := by
      rw [len]
      rfl
    have served {t : State} {st : Status} (owner : billSet body (hunted s) = (t, ⟨st, []⟩)) :
        exec (.billSet tag body) s = performed 0x35 tag [st.code] t :=
      exec_of_owner (i := .billSet tag body) (m := ⟨0x35, tag, body⟩) rfl accepts allowed
        ((handRequest_billSet ..).trans owner)
    have refuses {st : Status} (owner : billSet body (hunted s) = refuse st (hunted s)) :
        exec (.billSet tag body) s = refused 0x35 tag st s :=
      exec_of_refusal (i := .billSet tag body) (m := ⟨0x35, tag, body⟩) rfl accepts allowed
        ((handRequest_billSet ..).trans owner)
    refine ⟨fun bad => refuses ?_, fun sel code long => ?_⟩
    · cases select : tickSelectOf? (field body 0 1) with
      | none => simp only [billSet, select]
      | some sel =>
        have short : field body 1 2 = 0 := bad.resolve_left fun large => by
          rw [tickSelectOf?_of_large large] at select
          cases select
        exact (billSet_of_select select _).trans (if_pos short)
    · have reached := billSet_of_select (code ▸ tickSelectOf?_code sel) (hunted s)
      replace reached := reached.trans (if_neg long)
      intro b length
      split_ifs with overdue staged stopped
      · exact refuses (reached.trans (if_pos overdue))
      · replace reached := reached.trans (if_neg overdue)
        exact served (reached.trans (if_pos staged))
      · replace reached := reached.trans ((if_neg overdue).trans (if_neg staged))
        have applied : applySettings sel (field body 1 2) (hunted s) =
            { hunted s with billing := { s.billing with tickSelect := sel, length := field body 1 2 } } :=
          congrArg (fun x => { hunted s with billing := x }) (if_pos stopped)
        exact served (applied ▸ reached)
      · replace reached := reached.trans ((if_neg overdue).trans (if_neg staged))
        have applied : applySettings sel (field body 1 2) (hunted s) =
            { hunted s with
              billing :=
                { s.billing with tickSelect := sel, length := field body 1 2, count := 0, tickElapsed := 0 } } :=
          congrArg (fun x => { hunted s with billing := x }) (if_neg stopped)
        exact served (applied ▸ reached)
  · exact exec_of_owner (i := .billLock tag []) (m := ⟨0x37, tag, []⟩) (a := ⟨.ok, []⟩) rfl accepts rfl
      (handRequest_billLock ..)
  · exact kept_locked.exec c kept answers locked

/-! ### Drain -/

/-- R155: BILL-DRAIN of a maximum in range. -/
theorem billDrain_of_range {body : List Byte} {n : Nat} (count : field body 0 1 = n) (range : ¬(n = 0 ∨ 9 < n))
    (s : State) :
    billDrain body s =
      (let left := modBilling (fun b => { b with queue := b.queue.drop n }) s
       let t := if s.billing.overdue && hasRoom left then closeEpoch false left else left
       (t, ⟨.ok, bytesOf 1 (s.billing.queue.take n).length ++ bytesOf 2 t.billing.queue.length ++
         (s.billing.queue.take n).flatMap BillingRecord.bytes⟩)) := by
  simp only [billDrain, count, range, if_false]

/-- R155: a record in the layout of Table 10-6. -/
theorem recordFlags_bits (f : RecordFlags) :
    f.code = (if f.locked = true then 2 ^ 0 else 0) + (if f.late = true then 2 ^ 1 else 0) +
      (if f.final = true then 2 ^ 2 else 0) + (if f.removed = true then 2 ^ 3 else 0) := by
  obtain ⟨locked, late, final, removed⟩ := f
  revert locked late final removed
  decide

/-- Settles O55: the owner's reply, with the close it makes where there is room. -/
theorem billDrainHandsOverRecords : Obligations.BillDrainHandsOverRecords := by
  refine ⟨fun r => ?_, fun tag n s accepts => ?_⟩
  · have flags : bytesOf 1 r.flags.code = _ := congrArg (bytesOf 1) (recordFlags_bits r.flags)
    have heldSet : bytesOf 1 r.heldSet.toNat = [r.heldSet] := by
      rw [bytesOf_one, BitVec.ofNat_toNat, BitVec.setWidth_eq]
    simp only [BillingRecord.bytes, Meters.bytes, Meters.list, flags, heldSet, List.flatMap_cons, List.flatMap_nil,
      List.append_assoc, List.append_nil]
  · intro drained left room t queue
    have count : field [n] 0 1 = n.toNat := by simp [field, beNat]
    split_ifs with range
    · have refuses : billDrain [n] (hunted s) = refuse .value (hunted s) := by
        simp only [billDrain, count]
        exact if_pos range
      exact exec_of_refusal (i := .billDrain tag [n]) (m := ⟨0x36, tag, [n]⟩) rfl accepts rfl
        ((handRequest_billDrain ..).trans refuses)
    · have closes : (s.billing.overdue && hasRoom left) = true ↔ s.billing.overdue = true ∧ room := by
        rw [Bool.and_eq_true, hasRoom_iff queue]
        rfl
      have closed : (if s.billing.overdue && hasRoom left then closeEpoch false left else left) = t :=
        if_congr closes rfl rfl
      have reached := billDrain_of_range count range (hunted s)
      have served {t : State} {rest : List Byte} (owner : billDrain [n] (hunted s) = (t, ⟨.ok, rest⟩)) :
          exec (.billDrain tag [n]) s = performed 0x36 tag (0x00 :: rest) t :=
        exec_of_owner (i := .billDrain tag [n]) (m := ⟨0x36, tag, [n]⟩) rfl accepts rfl
          ((handRequest_billDrain ..).trans owner)
      refine served (reached.trans ?_)
      rw [← closed]
      rfl

end Sys2Proof.Machine

/-! Billing's epoch (R14, R148, R150 to R152, R157): what a close leaves, what a tick samples and counts, and what
BILL-QUERY reports. -/

namespace Sys2Proof.Machine

open Sys2Proof Sys2Proof.Safety

/-! ### A close -/

/-- R14: the directory that a close leaves. -/
theorem applyStagedBindings_directory (s : State) :
    (applyStagedBindings s).directory =
      { s.directory with
        applied := Vector.ofFn fun q : StationPort =>
          match s.directory.staged[q] with
          | some binding => binding
          | none => s.directory.applied[q]
        staged := Vector.replicate 32 none
        tenants := Vector.ofFn fun u : TenantId => { s.directory.tenants[u] with retired := false } } := by
  have applied : (fun q : StationPort => s.directory.staged[q].getD s.directory.applied[q]) =
      fun q : StationPort =>
        match s.directory.staged[q] with
        | some binding => binding
        | none => s.directory.applied[q] := by
    funext q
    cases s.directory.staged[q] <;> rfl
  exact congrArg (fun x => { s.directory with
    applied := Vector.ofFn x
    staged := Vector.replicate 32 none
    tenants := Vector.ofFn fun u : TenantId => { s.directory.tenants[u] with retired := false } }) applied

/-- R151, step 3: the settings that a close leaves. -/
theorem applyStagedSettings_eq (s : State) :
    applyStagedSettings s =
      { s with
        billing :=
          { s.billing with
            tickSelect := (s.billing.staged.map Prod.fst).getD s.billing.tickSelect
            length := (s.billing.staged.map Prod.snd).getD s.billing.length
            staged := none } } := by
  obtain ⟨directory, stations, forwarding, buffer, relief, ports, measurement, billing, link, now, out, free, q⟩ := s
  obtain ⟨state, overdue, epoch, meters, sel, length, count, elapsed, staged, queue, lock⟩ := billing
  cases staged <;> rfl

/-- R151: the notice of a close. -/
theorem closeEpoch_link (stop : Bool) (s : State) :
    (closeEpoch stop s).link =
      { s.link with
        notices :=
          { s.link.notices with
            epochClosed :=
              some
                { epoch := s.billing.epoch, flags := closeFlags s (isFinalClose s stop),
                  closes := min 255 ((s.link.notices.epochClosed.map EpochClosed.closes).getD 0 + 1) } } } := by
  have raised (epoch : BitVec 32) (flags : RecordFlags) (t : State) :
      (raiseEpochClosed epoch flags t).link =
        { t.link with
          notices :=
            { t.link.notices with
              epochClosed :=
                some
                  { epoch := epoch, flags := flags,
                    closes := min 255 ((t.link.notices.epochClosed.map EpochClosed.closes).getD 0 + 1) } } } := by
    simp only [raiseEpochClosed, modNotices]
    cases t.link.notices.epochClosed <;> rfl
  simp only [closeEpoch, raised]
  split_ifs
  · simp [stopBilling, applyStagedSettings, applyStagedBindings]
  · simp [openEpoch, applyStagedSettings, applyStagedBindings]

theorem resident_congr {s t : State} (h : t.buffer = s.buffer) (u : TenantId) : resident t u = resident s u := by
  simp only [resident, h]

theorem openedMeters_congr {s t : State} (directory : t.directory = s.directory) (buffer : t.buffer = s.buffer) :
    openedMeters t = openedMeters s := by
  simp only [openedMeters, directory, resident_congr buffer]

/-- R151: the meters are opened of the tenants as they are defined before the bindings apply. -/
theorem openedMeters_applyStagedBindings (s : State) : openedMeters (applyStagedBindings s) = openedMeters s := by
  refine meters_ext fun u => ?_
  have same := resident_congr (s := s) (t := applyStagedBindings s) (by simp) u
  have tenants : (applyStagedBindings s).directory.tenants[u].defined = s.directory.tenants[u].defined := by
    simp [applyStagedBindings]
  simp only [openedMeters, Fin.getElem_fin, Vector.getElem_ofFn, Fin.eta] at tenants ⊢
  simp only [tenants, same]

/-- The Billing Unit with the settings staged applied and other meters, count and generator. -/
theorem closeEpoch_billing (stop : Bool) (s : State) :
    (closeEpoch stop s).billing =
      { state := if isFinalClose s stop = true then .stopped else s.billing.state
        overdue := false
        epoch := if isFinalClose s stop = true then s.billing.epoch else s.billing.epoch + 1
        meters := Vector.ofFn fun u : TenantId =>
          if isFinalClose s stop = false ∧ s.directory.tenants[u].defined = true then
            some (Meters.opened (resident s u))
          else none
        tickSelect := (s.billing.staged.map Prod.fst).getD s.billing.tickSelect
        length := (s.billing.staged.map Prod.snd).getD s.billing.length
        count := if isFinalClose s stop = true then s.billing.count else 0
        tickElapsed := if isFinalClose s stop = true then s.billing.tickElapsed else 0
        staged := none
        queue := s.billing.queue ++ closeRecords s (isFinalClose s stop)
        lock := s.billing.lock } := by
  simp only [closeEpoch, raiseEpochClosed_keeps, applyStagedSettings_eq]
  generalize closeRecords s _ = records
  generalize filed : modBilling (fun b => { b with queue := b.queue ++ records }) s = t
  have billing : t.billing = { s.billing with queue := s.billing.queue ++ records } := filed ▸ rfl
  have opened : openedMeters t = openedMeters s := by
    rw [← filed]
    exact openedMeters_congr rfl rfl
  cases isFinalClose s stop with
  | true =>
    have closed : Vector.replicate 64 (none : Option Meters) = Vector.ofFn fun _ => none := meters_ext fun u => by simp
    simp only [if_true, stopBilling, modBilling_billing, Bool.true_eq_false, false_and, if_false, closed,
      applyStagedBindings, billing]
  | false =>
    have opens (b : Billing) : openedMeters { applyStagedBindings t with billing := b } = openedMeters s :=
      (openedMeters_congr (s := applyStagedBindings t) (by simp only) (by simp only)).trans
        ((openedMeters_applyStagedBindings t).trans opened)
    simp only [Bool.false_eq_true, if_false, openEpoch, modBilling_billing, true_and, opens]
    simp only [applyStagedBindings, billing, openedMeters]

/-- Settles O52: the steps of a close, one after another. -/
theorem closeWritesRecordsAndOpensTheNextEpoch : Obligations.CloseWritesRecordsAndOpensTheNextEpoch := by
  intro stop s b final flags records
  obtain ⟨stations, forwarding, buffer, relief, ports, measurement, now, out, free, pending, -⟩ :=
    closeEpoch_keeps stop s
  exact state_ext ((closeEpoch_directory stop s).trans (applyStagedBindings_directory s)) stations forwarding buffer
    relief ports measurement (closeEpoch_billing stop s) (closeEpoch_link stop s) now out free pending

/-! ### A tick -/

/-- R148, step 1: meters with the cells of a tick added. -/
def addCells (n : Nat) (m : Meters) : Meters := { m with cellTicks := m.cellTicks + BitVec.ofNat 64 n }

/-- R148, step 1: the meters with the cells of the tenants of a list added. -/
def sampledMeters (g : TenantId → Nat) (l : List TenantId) (s : State) : Vector (Option Meters) 64 :=
  Vector.ofFn fun u : TenantId =>
    if u ∈ l then s.billing.meters[u].map (addCells (g u)) else s.billing.meters[u]

theorem sampledMeters_get (g : TenantId → Nat) (l : List TenantId) (s : State) (u : TenantId) :
    (sampledMeters g l s)[u] =
      if u ∈ l then s.billing.meters[u].map (addCells (g u)) else s.billing.meters[u] := by
  simp [sampledMeters]

theorem reportCellTicks_of_running {s : State} (h : s.billing.state ≠ .stopped) (u : TenantId) (n : Nat) :
    reportCellTicks u n s =
      withMeters (s.billing.meters.set u (s.billing.meters[u].map (addCells n))) s := by
  rw [reportCellTicks, report_eq, if_neg h]
  rfl

/-- R148, step 1: the tenants of a list sampled one after the other. -/
theorem foldl_reportCellTicks (g : TenantId → Nat) {l : List TenantId} (once : l.Nodup) {s : State}
    (running : s.billing.state ≠ .stopped) :
    l.foldl (fun acc u => reportCellTicks u (g u) acc) s = withMeters (sampledMeters g l s) s := by
  induction l generalizing s with
  | nil =>
    have same : sampledMeters g [] s = s.billing.meters := meters_ext fun u => by simp [sampledMeters]
    rw [same]
    rfl
  | cons x l ih =>
    obtain ⟨first, rest⟩ := List.nodup_cons.mp once
    have charged (y : Vector (Option Meters) 64) : (withMeters y s).billing.meters = y := rfl
    have after (y : Vector (Option Meters) 64) := ih rest (s := withMeters y s) running
    rw [List.foldl_cons, reportCellTicks_of_running running, after, withMeters_withMeters]
    refine congrArg (fun z => withMeters z s) (meters_ext fun u => ?_)
    rw [sampledMeters_get, sampledMeters_get, charged]
    by_cases mine : x = u
    · subst mine
      rw [if_neg first, if_pos List.mem_cons_self]
      simp
    · have set (y : Option Meters) : (s.billing.meters.set x y)[u] = s.billing.meters[u] :=
        Vector.getElem_set_ne x.isLt u.isLt fun same => mine (Fin.ext same)
      have member : u ∈ x :: l ↔ u ∈ l := List.mem_cons.trans (or_iff_right (Ne.symm mine))
      rw [set]
      exact if_congr member.symm rfl rfl

theorem nodup_definedTenants (s : State) : (definedTenants s).Nodup := (List.nodup_finRange 64).filter _

theorem mem_definedTenants {s : State} {u : TenantId} :
    u ∈ definedTenants s ↔ s.directory.tenants[u].defined = true := by
  simp [definedTenants]

/-- R148, step 1: the Billing Unit sampled, with what the tick takes from the generator. -/
def sampledBilling (s : State) : Billing :=
  { s.billing with
    tickElapsed := s.billing.tickElapsed - s.billing.tickSelect.micros
    meters := Vector.ofFn fun u : TenantId =>
      if s.directory.tenants[u].defined = true then
        s.billing.meters[u].map (addCells (tenantCommon s u + tenantHeadroom s u))
      else s.billing.meters[u] }

theorem sampled_eq {s : State} (running : s.billing.state ≠ .stopped) :
    sampled s = { s with billing := sampledBilling s } := by
  have meters : sampledMeters (fun u => tenantCommon s u + tenantHeadroom s u) (definedTenants s) s =
      (sampledBilling s).meters := meters_ext fun u => by
    rw [sampledMeters_get, if_congr mem_definedTenants rfl rfl]
    simp [sampledBilling]
  have folded := foldl_reportCellTicks (fun u => tenantCommon s u + tenantHeadroom s u) (nodup_definedTenants s)
    (s := modBilling (fun b => { b with tickElapsed := b.tickElapsed - b.tickSelect.micros }) s) running
  refine Eq.trans folded ?_
  exact congrArg (fun x => { s with billing := { s.billing with
    tickElapsed := s.billing.tickElapsed - s.billing.tickSelect.micros, meters := x } }) meters

/-- Settles O57: the tick that is due, sampled and counted, with what the expiry finds. -/
theorem epochTicksSampleCountAndExpire : Obligations.EpochTicksSampleCountAndExpire := by
  intro s running late b billing counted
  have sample : sampled s = { s with billing := billing } := sampled_eq running
  have sameQueue : billing.queue = b.queue := rfl
  have sameCount : billing.count = b.count := rfl
  have sameEpoch : billing.epoch = b.epoch := rfl
  clear_value billing
  have due : tickDue s = true := by
    simp only [tickDue, Bool.and_eq_true, bne_iff_ne, decide_eq_true_eq]
    exact ⟨running, late⟩
  have ticks : exec .epochTick s = .next (transmit (epochTickEvent s)) :=
    occurs_of_due due (fun s => transmit (epochTickEvent s)) s
  have count : tickCounted s = counted :=
    calc tickCounted s
      _ = { s with billing := { billing with count := billing.count + 1 } } :=
        congrArg (modBilling fun b => { b with count := b.count + 1 }) sample
      _ = counted := congrArg (fun n => { s with billing := { billing with count := n + 1 } }) sameCount
  refine ⟨fun rests => ?_, fun runs clear => ⟨fun short => ?_, fun full => ?_⟩⟩
  · have uncounted : ¬countsTick s = true := by
      simp only [countsTick, Bool.and_eq_true, beq_iff_eq, Bool.not_eq_true']
      rintro ⟨runs, clear⟩
      rcases rests with held | overdue
      · rw [held] at runs
        cases runs
      · rw [overdue] at clear
        cases clear
    rw [ticks, epochTickEvent_eq, if_neg uncounted, sample]
  · have counts : countsTick s = true := by
      simp only [countsTick, Bool.and_eq_true, beq_iff_eq, Bool.not_eq_true']
      exact ⟨runs, clear⟩
    rw [ticks, epochTickEvent_eq, if_pos counts, if_neg (Nat.not_le.mpr short), count]
  · have counts : countsTick s = true := by
      simp only [countsTick, Bool.and_eq_true, beq_iff_eq, Bool.not_eq_true']
      exact ⟨runs, clear⟩
    have expires : expiryDue s = true := by
      simp only [expiryDue, Bool.and_eq_true, decide_eq_true_eq]
      exact ⟨⟨due, counts⟩, full⟩
    have expiry : exec .epochExpiry s = .next (transmit (expireEpoch counted)) := by
      refine (occurs_of_due expires (fun s => transmit (epochTickEvent s)) s).trans ?_
      rw [epochTickEvent_eq, if_pos counts, if_pos full, count]
    have room : hasRoom counted = true ↔ (definedTenants s).length ≤ 256 - b.queue.length :=
      sameQueue ▸ decide_eq_true_iff
    refine ⟨occurs_of_due expires (fun s => transmit (epochTickEvent s)) s |>.trans ticks.symm, fun fits => ?_,
      fun lacks => ?_⟩
    · rw [expiry, expireEpoch, if_pos (room.mpr fits)]
    · rw [expiry, expireEpoch, if_neg (mt room.mp (Nat.not_le.mpr lacks)), ← sameEpoch]
      rfl

/-! ### The query -/

/-- R157: the reply of BILL-QUERY, from its bytes of staged settings and of meters. -/
def billLayout (s : State) (staged meters : List Byte) : List Byte :=
  [0x00, BitVec.ofNat 8 s.billing.state.code, BitVec.ofNat 8 (yesNo s.billing.overdue)] ++
    bytesOf 4 s.billing.epoch.toNat ++ bytesOf 1 s.billing.tickSelect.code ++ bytesOf 2 s.billing.length ++
    bytesOf 2 s.billing.count ++ bytesOf 1 (yesNo s.billing.staged.isSome) ++ staged ++
    bytesOf 1 (yesNo s.billing.lock) ++ bytesOf 2 s.billing.queue.length ++
    bytesOf 2 (256 - s.billing.queue.length) ++ bytesOf 1 (definedTenants s).length ++ meters

theorem billLayout_hunted (s : State) (staged meters : List Byte) :
    billLayout (hunted s) staged meters = billLayout s staged meters := rfl

theorem handRequest_billQuery (body : List Byte) (s : State) : handRequest 0x38 body s = billQuery body s := rfl

/-- R157: the report, with what the staged bytes draw. -/
theorem billReport_eq (s : State) (t : Option TenantId) :
    (billReport s t).1 = (stagedBytes s).1 ∧
      (billReport s t).2.body = billLayout s (stagedBytes s).2 (queryMeters s t) := by
  refine ⟨rfl, ?_⟩
  simp only [Answer.body, billReport, billLayout, epochBytes, freePlaces, placesNeeded, bytesOf_one, List.append_assoc,
    List.cons_append, List.nil_append]
  rfl

/-- R157: a query that its owner reports on is answered with the report; what the staged bytes hold where nothing is
staged is drawn. -/
theorem exec_billQuery {tag : Byte} {body : List Byte} {s : State} {t : Option TenantId} {meters : List Byte}
    (accepts : accepting s) (allowed : lengthAllowed? 0x38 body.length = some true)
    (owner : billQuery body (hunted s) = billReport (hunted s) t) (named : queryMeters (hunted s) t = meters) :
    (∀ (sel : TickSelect) (len : Nat), s.billing.staged = some (sel, len) →
      exec (.billQuery tag body) s =
        performed 0x38 tag (billLayout s (BitVec.ofNat 8 sel.code :: bytesOf 2 len) meters) (hunted s)) ∧
    (s.billing.staged = none → ∃ x y z : Byte,
      exec (.billQuery tag body) s =
        performed 0x38 tag (billLayout s [x, y, z] meters) { hunted s with freeCount := s.freeCount + 3 }) := by
  have answered : exec (.billQuery tag body) s =
      performed 0x38 tag (billReport (hunted s) t).2.body (billReport (hunted s) t).1 :=
    exec_of_owner (i := .billQuery tag body) (m := ⟨0x38, tag, body⟩) rfl accepts allowed
      ((handRequest_billQuery ..).trans owner)
  obtain ⟨after, reply⟩ := billReport_eq (hunted s) t
  rw [after, reply, billLayout_hunted, named] at answered
  refine ⟨fun sel len staged => ?_, fun staged => ?_⟩
  · have drawn : stagedBytes (hunted s) = (hunted s, BitVec.ofNat 8 sel.code :: bytesOf 2 len) := by
      simp only [stagedBytes, hunted_billing, staged, bytesOf_one]
      rfl
    rw [answered, drawn]
  · refine ⟨Config.freeByte s.freeCount, Config.freeByte (s.freeCount + 1), Config.freeByte (s.freeCount + 1 + 1), ?_⟩
    have drawn : stagedBytes (hunted s) = ({ hunted s with freeCount := s.freeCount + 3 },
        [Config.freeByte s.freeCount, Config.freeByte (s.freeCount + 1), Config.freeByte (s.freeCount + 1 + 1)]) := by
      simp only [stagedBytes, hunted_billing, staged]
      rfl
    rw [answered, drawn]

/-- R157: the meters of a query that names a tenant. -/
theorem queryMeters_of_stopped {s : State} (h : s.billing.state = .stopped) (u : TenantId) :
    queryMeters s (some u) = [0x00] := by
  simp only [queryMeters, h, bytesOf_one]
  rfl

theorem queryMeters_of_open {s : State} {u : TenantId} {m : Meters} (running : s.billing.state ≠ .stopped)
    (standing : s.billing.meters[u] = some m) :
    queryMeters s (some u) =
      0x01 :: (m.list.flatMap (fun v => bytesOf 8 v.toNat) ++ bytesOf 8 (resident s u)) := by
  cases state : s.billing.state with
  | stopped => exact absurd state running
  | running | held =>
    simp only [queryMeters, state, standing, bytesOf_one, Meters.bytes, List.append_assoc]
    rfl

/-- Settles O56: the owner's checks, and the report of the state. -/
theorem billQueryReportsTheEpoch : Obligations.BillQueryReportsTheEpoch := by
  intro tag s accepts _ b report answers
  refine ⟨exec_billQuery (t := none) accepts rfl rfl rfl, fun x => ?_⟩
  have field_x : field [x] 0 1 = x.toNat := by simp [field, beNat]
  have refuses {st : Status} (owner : billQuery [x] (hunted s) = refuse st (hunted s)) :
      exec (.billQuery tag [x]) s = refused 0x38 tag st s :=
    exec_of_refusal (i := .billQuery tag [x]) (m := ⟨0x38, tag, [x]⟩) rfl accepts rfl
      ((handRequest_billQuery ..).trans owner)
  have reached : billQuery [x] (hunted s) =
      match tenantOf? x.toNat with
      | none => refuse .value (hunted s)
      | some t =>
        if s.directory.tenants[t].defined then billReport (hunted s) (some t) else refuse .notFound (hunted s) := by
    rw [← field_x]
    rfl
  refine ⟨fun large => ?_, fun u names => ?_⟩
  · rw [tenantOf?_of_large large] at reached
    exact refuses reached
  · rw [tenantOf?_of_val names] at reached
    refine ⟨fun missing => refuses (reached.trans (if_neg (missing ▸ Bool.false_ne_true))), fun defined stopped => ?_,
      fun m defined running standing => ?_⟩
    · exact exec_billQuery accepts rfl (reached.trans (if_pos defined))
        (queryMeters_of_stopped (s := hunted s) stopped u)
    · have same : resident (hunted s) u = resident s u := resident_congr rfl u
      exact exec_billQuery accepts rfl (reached.trans (if_pos defined))
        (same ▸ queryMeters_of_open (s := hunted s) running standing)

end Sys2Proof.Machine

/-! The departure of a port (R31, R32, R52, R75, R84, R90, R140): what the blocks beside the Buffer Manager make of a
fence or a disable, from the state in which the port's queues are empty. -/

namespace Sys2Proof.Machine

open Sys2Proof Sys2Proof.Safety

/-! ### The evaluation of held queues, read from what it reads -/

/-- Two states that an evaluation of held queues does not tell apart. -/
structure SameView (s u : State) : Prop where
  relief : u.relief = s.relief
  notice : u.link.notices.relief = s.link.notices.relief
  occupancy (q : Port) : occupancy u.buffer u.buffer.held[q] = occupancy s.buffer s.buffer.held[q]
  cells (q i : Port) : cellsFrom u.buffer u.buffer.held[q] i = cellsFrom s.buffer s.buffer.held[q] i
  link (i : Port) : u.ports[i].link = s.ports[i].link

theorem contributes_view {s u : State} (h : SameView s u) (q i : Port) : contributes u q i = contributes s q i := by
  simp only [contributes, h.relief, h.cells, h.link]

theorem SameView.evaluateQueue {s u : State} (h : SameView s u) (q : Port) :
    SameView (evaluateQueue q s) (evaluateQueue q u) := by
  obtain ⟨-, -, -, buffer, -, ports, -⟩ := evaluateQueue_keeps q s
  obtain ⟨-, -, -, buffer', -, ports', -⟩ := evaluateQueue_keeps q u
  refine ⟨?_, ?_, fun x => ?_, fun x i => ?_, fun i => ?_⟩
  · simp only [evaluateQueue_relief, h.relief, h.occupancy, contributes_view h]
  · simp only [evaluateQueue_notices, h.relief, h.occupancy]
    split_ifs
    · exact h.notice
    · simp only [h.notice]
  · rw [buffer, buffer']
    exact h.occupancy x
  · rw [buffer, buffer']
    exact h.cells x i
  · rw [ports, ports']
    exact h.link i

/-- R77: the evaluation of the queues that changed, as the statements write it. -/
theorem SameView.evaluateChanged {before before' : State}
    (same : ∀ q : Port, Machine.occupancy before'.buffer before'.buffer.held[q] =
      Machine.occupancy before.buffer before.buffer.held[q])
    (qs : List Port) {s u : State} (h : SameView s u) :
    SameView (evaluateChanged qs before s) (evaluated qs before' u) := by
  induction qs generalizing s u with
  | nil => exact h
  | cons q qs ih =>
    refine ih ?_
    have changed : (Machine.occupancy u.buffer u.buffer.held[q] = Machine.occupancy before'.buffer before'.buffer.held[q]) ↔
        (Machine.occupancy before.buffer before.buffer.held[q] = Machine.occupancy s.buffer s.buffer.held[q]) := by
      rw [h.occupancy, same]
      exact eq_comm
    simp only [evaluateIfChanged, if_congr changed rfl rfl]
    split_ifs
    · exact h
    · exact h.evaluateQueue q

/-- R82: an evaluation writes the congestion states, the contributor sets and the RELIEF detail alone. -/
theorem evaluateChanged_relief (qs : List Port) (before s : State) :
    (evaluateChanged qs before s).relief =
      { s.relief with
        congested := (evaluateChanged qs before s).relief.congested
        contributors := (evaluateChanged qs before s).relief.contributors } := by
  induction qs generalizing s with
  | nil => rfl
  | cons q qs ih =>
    refine (ih (evaluateIfChanged q before s)).trans ?_
    have paced : (evaluateIfChanged q before s).relief =
        { s.relief with
          congested := (evaluateIfChanged q before s).relief.congested
          contributors := (evaluateIfChanged q before s).relief.contributors } := by
      simp only [evaluateIfChanged]
      split_ifs
      · rfl
      · simp only [evaluateQueue_relief]
    rw [paced]
    rfl

theorem evaluateChanged_link (qs : List Port) (before s : State) :
    (evaluateChanged qs before s).link =
      { s.link with
        notices := { s.link.notices with relief := (evaluateChanged qs before s).link.notices.relief } } := by
  induction qs generalizing s with
  | nil => rfl
  | cons q qs ih =>
    refine (ih (evaluateIfChanged q before s)).trans ?_
    have link : (evaluateIfChanged q before s).link =
        { s.link with
          notices := { s.link.notices with relief := (evaluateIfChanged q before s).link.notices.relief } } := by
      simp only [evaluateIfChanged]
      split_ifs
      · rfl
      · rw [evaluateQueue_eq]
        simp only [evaluateQueue_notices]
        split_ifs <;> rfl
    rw [link]
    rfl

/-! ### The group's UP membership (R32, R52) -/

theorem leaveUp_of_none {p : Port} {s : State} (h : groupOfPort s p = none) : leaveUp p s = s := by
  simp only [leaveUp, h]

/-- R32: a membership that a port leaves empty has the group's learned entries flushed. -/
theorem leaveUp_stations {p : Port} {s : State} {g : Group} (own : groupOfPort s p = some g) :
    (leaveUp p s).stations =
      if (groupTables s g).up.getLsbD (trunkBit p) = true ∧ (groupTables (leaveUp p s) g).up = 0 then
        (flushTarget (.group g) s).stations
      else s.stations := by
  have left : (groupTables (leaveUp p s) g).up = (groupTables s g).up &&& ~~~ (1#8 <<< trunkBit p) := by
    rw [groupTables_leaveUp, if_pos own]
  rw [left]
  have up : (groupTables (modGroup g (fun t => { t with up := t.up &&& ~~~ (1#8 <<< trunkBit p) }) s) g).up =
      (groupTables s g).up &&& ~~~ (1#8 <<< trunkBit p) := by
    rw [groupTables_modGroup, if_pos rfl]
  simp only [leaveUp, own]
  by_cases set : (groupTables s g).up.getLsbD (trunkBit p) = true
  · simp only [set, if_true, up, true_and]
    split_ifs
    · cases g <;> rfl
    · cases g <;> rfl
  · rw [if_neg set, if_neg fun both => set both.1]

/-- R52: a trunk's leaving writes the tables of its group alone. -/
theorem leaveUp_forwarding (p : Port) (s : State) :
    (leaveUp p s).forwarding =
      { s.forwarding with
        groupA := (leaveUp p s).forwarding.groupA, groupB := (leaveUp p s).forwarding.groupB } := by
  simp only [leaveUp]
  split
  next g _ => cases g <;> (split_ifs <;> rfl)
  next => rfl

/-- The table beside its entries is as it was. -/
theorem leaveUp_entries (p : Port) (s : State) :
    (leaveUp p s).stations = { s.stations with entries := (leaveUp p s).stations.entries } := by
  cases own : groupOfPort s p with
  | none => rw [leaveUp_of_none own]
  | some g =>
    rw [leaveUp_stations own]
    split_ifs <;> rfl

theorem forgetStations_of_trunk {p : Port} (trunk : isStation p = false) (s : State) : forgetStations p s = s := by
  have none : stationOf? p = Option.none := by
    simp only [isStation, decide_eq_false_iff_not] at trunk
    exact dif_neg trunk
  simp only [forgetStations, none]

theorem forgetStations_of_station (q : StationPort) (s : State) :
    forgetStations (asPort q) s = flushTarget (.port q) s := by
  simp only [forgetStations, stationOf?_asPort]

/-! ### The other blocks' parts in order -/

/-- R124, R119: what the blocks beside the Buffer Manager and the Port Units do at a departure. -/
def departed (p : Port) (s : State) : State := withdraw p (leaveUp p (relieveDeparture p (forgetStations p s)))

@[simp] theorem departed_keeps (p : Port) (s : State) :
    (departed p s).directory = s.directory ∧ (departed p s).buffer = s.buffer ∧ (departed p s).ports = s.ports ∧
      (departed p s).billing = s.billing ∧ (departed p s).now = s.now ∧ (departed p s).lineOut = s.lineOut ∧
      (departed p s).freeCount = s.freeCount ∧ (departed p s).pending = s.pending := by
  simp [departed]

/-- What the emptying of a port's queues leaves, its PORT-CHANGE raised. -/
structure Emptied (p : Port) (s x : State) : Prop where
  directory : x.directory = s.directory
  stations : x.stations = s.stations
  forwarding : x.forwarding = s.forwarding
  measurement : x.measurement = s.measurement
  now : x.now = s.now
  freeCount : x.freeCount = s.freeCount
  pending : x.pending = s.pending
  relief : x.relief =
    { s.relief with congested := x.relief.congested, contributors := x.relief.contributors }
  billing : x.billing = { s.billing with meters := x.billing.meters }
  link : x.link =
    { s.link with notices := { changed s.link.notices p with relief := x.link.notices.relief } }

/-- A state whose blocks beside the buffer and the ports are those of another, but for the FAULT detail. -/
structure Agrees (d t : State) : Prop where
  directory : t.directory = d.directory
  stations : t.stations = d.stations
  forwarding : t.forwarding = d.forwarding
  relief : t.relief = d.relief
  measurement : t.measurement = d.measurement
  billing : t.billing = d.billing
  now : t.now = d.now
  freeCount : t.freeCount = d.freeCount
  pending : t.pending = d.pending
  link : t.link = { d.link with notices := { d.link.notices with fault := t.link.notices.fault } }

theorem Agrees.refl (d : State) : Agrees d d := by
  constructor <;> rfl

theorem Emptied.congr {p : Port} {s x y : State} (h : Emptied p s x) (agrees : Agrees x y) (link : y.link = x.link) :
    Emptied p s y := by
  obtain ⟨directory, stations, forwarding, relief, measurement, billing, now, freeCount, pending, -⟩ := agrees
  refine ⟨directory.trans h.directory, stations.trans h.stations, forwarding.trans h.forwarding,
    measurement.trans h.measurement, now.trans h.now, freeCount.trans h.freeCount, pending.trans h.pending, ?_, ?_, ?_⟩
  · rw [relief]
    exact h.relief
  · rw [billing]
    exact h.billing
  · rw [link]
    exact h.link

/-- R140: the withdrawal reads the list and the MEASURE-DONE detail. -/
theorem withdrawn_congr {p : Port} {s x : State} (measurement : x.measurement = s.measurement)
    (detail : x.link.notices.measureDone = s.link.notices.measureDone) :
    (withdrawn p x).measurement = (withdrawn p s).measurement ∧
      (withdrawn p x).link.notices.measureDone = (withdrawn p s).link.notices.measureDone := by
  simp only [withdrawn, measurement]
  split_ifs
  · refine ⟨rfl, ?_⟩
    simp only [raiseMeasureDone, modNotices, detail]
  · exact ⟨rfl, detail⟩

theorem withdrawn_link (p : Port) (s : State) :
    (withdrawn p s).link =
      { s.link with
        notices := { s.link.notices with measureDone := (withdrawn p s).link.notices.measureDone } } := by
  simp only [withdrawn]
  split_ifs <;> rfl

theorem set_false_get (p i : Port) (x : PortSet) : (x.set p false)[i] = (i != p && x[i]) := by
  by_cases here : i = p
  · subst here
    simp
  · have apart : p.val ≠ i.val := fun same => here (Fin.ext same.symm)
    simp [here, Vector.getElem_set_ne _ _ apart]

/-- R84, R90: the Relief Controller's part in a departure. -/
theorem relieveDeparture_relief (p : Port) (s : State) :
    (relieveDeparture p s).relief =
      { s.relief with
        contributors := Vector.ofFn fun q : Port => s.relief.contributors[q].set p false
        paced := s.relief.paced.set p false
        generators := s.relief.generators.set p { s.relief.generators[p] with state := .idle, timer := none } } := by
  simp only [relieveDeparture, leaveContributors, forceIdle, modGenerator, updAt_eq_set]

/-- R84: a port that departs is in no contributor set. -/
theorem relieveDeparture_contributors (p : Port) (s : State) (q i : Port) :
    (relieveDeparture p s).relief.contributors[q][i] = (i != p && s.relief.contributors[q][i]) := by
  rw [relieveDeparture_relief, ← set_false_get]
  simp

theorem flushTarget_stations {x y : State} (h : y.stations = x.stations) (target : Target) :
    (flushTarget target y).stations = (flushTarget target x).stations := by
  simp only [flushTarget, removeEntries, modEntries, h]

/-! ### What the departed state holds -/

theorem departed_relief (p : Port) (x : State) : (departed p x).relief = (relieveDeparture p x).relief := by
  have same : (forgetStations p x).relief = x.relief := by simp
  simp only [departed, withdraw_keeps, leaveUp_keeps, relieveDeparture_relief, same]

theorem departed_groupTables (p : Port) (x : State) (g : Group) :
    groupTables (departed p x) g = groupTables (leaveUp p x) g := by
  have same (y : State) (eq : y.forwarding = x.forwarding) :
      groupTables (leaveUp p y) g = groupTables (leaveUp p x) g := by
    rw [groupTables_leaveUp, groupTables_leaveUp, groupOfPort_congr eq, groupTables_congr eq]
  calc groupTables (departed p x) g
      = groupTables (leaveUp p (relieveDeparture p (forgetStations p x))) g :=
        groupTables_congr (by simp [departed]) g
    _ = groupTables (leaveUp p x) g := same _ (by simp)

theorem departed_forwarding (p : Port) (x : State) :
    (departed p x).forwarding =
      { x.forwarding with
        groupA := (departed p x).forwarding.groupA, groupB := (departed p x).forwarding.groupB } := by
  have same : (relieveDeparture p (forgetStations p x)).forwarding = x.forwarding := by simp
  have left := leaveUp_forwarding p (relieveDeparture p (forgetStations p x))
  rw [same] at left
  have last : (departed p x).forwarding = (leaveUp p (relieveDeparture p (forgetStations p x))).forwarding := by
    simp [departed]
  rwa [← last] at left

/-- R31: a station's learned entries are gone. -/
theorem departed_stations_of_station (q : StationPort) (x : State) :
    (departed (asPort q) x).stations = (flushTarget (.port q) x).stations := by
  have station : isStation (asPort q) = true := by simp [isStation, asPort]
  have alone (y : State) : leaveUp (asPort q) y = y := leaveUp_of_none (groupOfPort_of_station station y)
  simp only [departed, withdraw_keeps, alone, relieveDeparture_keeps, forgetStations_of_station]

/-- R32: of a trunk's departure the station table knows its leaving of the UP membership. -/
theorem departed_stations_of_trunk {p : Port} (trunk : isStation p = false) (x : State) :
    (departed p x).stations = (leaveUp p x).stations := by
  simp only [departed, withdraw_keeps, forgetStations_of_trunk trunk]
  have same : (relieveDeparture p x).stations = x.stations := by simp
  have forwarding : (relieveDeparture p x).forwarding = x.forwarding := by simp
  cases own : groupOfPort x p with
  | none =>
    have own' : groupOfPort (relieveDeparture p x) p = none := (groupOfPort_congr forwarding p).trans own
    rw [leaveUp_of_none own, leaveUp_of_none own', same]
  | some g =>
    have own' : groupOfPort (relieveDeparture p x) p = some g := (groupOfPort_congr forwarding p).trans own
    have tables : groupTables (leaveUp p (relieveDeparture p x)) g = groupTables (leaveUp p x) g := by
      rw [groupTables_leaveUp, groupTables_leaveUp, own, own', groupTables_congr forwarding]
    rw [leaveUp_stations own, leaveUp_stations own', tables, groupTables_congr forwarding, flushTarget_stations same,
      same]

theorem departed_entries (p : Port) (x : State) :
    (departed p x).stations = { x.stations with entries := (departed p x).stations.entries } := by
  cases station : isStation p with
  | true =>
    obtain ⟨q, rfl⟩ : ∃ q, p = asPort q := ⟨⟨p.val, (isStation_iff p).mp station⟩, rfl⟩
    rw [departed_stations_of_station]
    rfl
  | false =>
    rw [departed_stations_of_trunk station]
    exact leaveUp_entries p x

theorem departed_measurement (p : Port) (x : State) : (departed p x).measurement = (withdrawn p x).measurement := by
  rw [departed, withdraw_eq_withdrawn]
  exact (withdrawn_congr (s := x) (by simp) (by simp)).1

theorem departed_link (p : Port) (x : State) :
    (departed p x).link =
      { x.link with notices := { x.link.notices with measureDone := (withdrawn p x).link.notices.measureDone } } := by
  have same : (leaveUp p (relieveDeparture p (forgetStations p x))).link = x.link := by simp
  rw [departed, withdraw_eq_withdrawn, withdrawn_link, same]
  rw [(withdrawn_congr (p := p) (s := x) (by simp) (by simp)).2]

/-- R52: a departure leaves the port's group as the statements say. -/
theorem leavesGroup_departed (p : Port) (x : State) : leavesGroup x (departed p x) p := by
  have tables := departed_groupTables p x
  refine ⟨fun g => ⟨?_, fun other => ?_, fun own => ⟨?_, fun set emptied => ?_⟩⟩, fun trunk stays => ?_⟩
  · rw [tables, groupTables_leaveUp]
    split_ifs <;> rfl
  · rw [tables, groupTables_leaveUp, if_neg other]
  · rw [tables, groupTables_leaveUp, if_pos own]
    rfl
  · rw [tables] at emptied
    rw [departed_stations_of_trunk (groupOfPort_eq_some own).1, leaveUp_stations own, if_pos ⟨set, emptied⟩]
    rfl
  · have trunk : isStation p = false := by simpa [isStation] using trunk
    rw [departed_stations_of_trunk trunk]
    cases own : groupOfPort x p with
    | none => rw [leaveUp_of_none own]
    | some g =>
      have kept : ¬((groupTables x g).up.getLsbD (trunkBit p) = true ∧ (groupTables (leaveUp p x) g).up = 0) :=
        fun ⟨set, emptied⟩ => stays g own set ((congrArg TrunkGroup.up (tables g)).trans emptied)
      rw [leaveUp_stations own, if_neg kept]

/-- R52: leaving a group is read from the forwarding tables and the entries. -/
theorem leavesGroup_congr {s x d t : State} {p : Port} (h : leavesGroup x d p) (before : x.forwarding = s.forwarding)
    (table : x.stations = s.stations) (after : t.forwarding = d.forwarding) (entries : t.stations = d.stations) :
    leavesGroup s t p := by
  simpa only [leavesGroup, groupTables_congr before, groupTables_congr after, groupOfPort_congr before, table,
    entries] using h

/-- What every block takes of a departure, from the state in which the port's queues are empty. -/
theorem departs_of {p : Port} {qs : List Port} {s x t : State} (emptied : Emptied p s x)
    (agrees : Agrees (departed p x) t)
    (relief : (evaluated qs s { s with buffer := t.buffer, ports := t.ports }).relief = x.relief)
    (notice : (evaluated qs s { s with buffer := t.buffer, ports := t.ports }).link.notices.relief =
      x.link.notices.relief) : departs s t p qs := by
  have done := withdrawn_congr (p := p) (s := s) emptied.measurement (by rw [emptied.link]; rfl)
  refine ⟨?_, fun q here => ?_, ?_, ?_, ?_, ?_, ?_, fun q i => ?_, fun i => ?_, ?_, ?_, ?_, ?_, ?_, ?_, ?_⟩
  · rw [agrees.directory, (departed_keeps p x).1, emptied.directory]
  · subst here
    rw [agrees.stations, departed_stations_of_station, ← emptied.stations]
    rfl
  · rw [agrees.stations, ← emptied.stations]
    exact departed_entries p x
  · exact leavesGroup_congr (leavesGroup_departed p x) emptied.forwarding emptied.stations agrees.forwarding
      agrees.stations
  · rw [agrees.forwarding, ← emptied.forwarding]
    exact departed_forwarding p x
  · rw [agrees.relief, departed_relief, relieveDeparture_relief, emptied.relief]
  · rw [agrees.relief, departed_relief, relieveDeparture_relief, relief]
  · rw [agrees.relief, departed_relief, relieveDeparture_contributors, relief]
  · rw [agrees.relief, departed_relief, relieveDeparture_relief, set_false_get, emptied.relief]
  · rw [agrees.relief, departed_relief, relieveDeparture_relief, emptied.relief]
  · rw [agrees.measurement, departed_measurement, done.1]
  · have link := emptied.link
    refine agrees.link.trans ?_
    rw [departed_link, done.2, notice]
    generalize x.link.notices.relief = detail at link ⊢
    rw [link]
    rfl
  · rw [agrees.billing, (departed_keeps p x).2.2.2.1]
    exact emptied.billing
  · rw [agrees.now, (departed_keeps p x).2.2.2.2.1, emptied.now]
  · rw [agrees.freeCount, (departed_keeps p x).2.2.2.2.2.2.1, emptied.freeCount]
  · rw [agrees.pending, (departed_keeps p x).2.2.2.2.2.2.2, emptied.pending]

end Sys2Proof.Machine

/-! The disable (R119): its port, its queues and what every block takes of it. -/

namespace Sys2Proof.Machine

open Sys2Proof Sys2Proof.Safety

/-! ### What an occupancy is read from -/

/-- R60: an occupancy is read from the records and the ids of the copies. -/
theorem occupancy_congr {b b' : Buffer} {q q' : List CopyEntry} (records : b'.records = b.records)
    (frames : q'.map CopyEntry.frame = q.map CopyEntry.frame) : occupancy b' q' = occupancy b q := by
  have cells : cellsOf b' = cellsOf b := by
    funext id
    simp only [cellsOf, frameOf?, records]
  have summed (c : Buffer) (x : List CopyEntry) : occupancy c x = ((x.map CopyEntry.frame).map (cellsOf c)).sum := by
    rw [occupancy, List.map_map]
    rfl
  rw [summed, summed, frames, cells]

/-- R77: the cells that a copy of an id holds of those received on a port. -/
def cellsVia (b : Buffer) (ingress : Port) (id : Nat) : Nat :=
  match frameOf? b id with
  | some r => if r.ingress = ingress then r.cells else 0
  | none => 0

theorem cellsFrom_congr {b b' : Buffer} {q q' : List CopyEntry} (records : b'.records = b.records)
    (frames : q'.map CopyEntry.frame = q.map CopyEntry.frame) (i : Port) : cellsFrom b' q' i = cellsFrom b q i := by
  have cells : cellsVia b' i = cellsVia b i := by
    funext id
    simp only [cellsVia, frameOf?, records]
  have summed (c : Buffer) (x : List CopyEntry) :
      cellsFrom c x i = ((x.map CopyEntry.frame).map (cellsVia c i)).sum := by
    rw [List.map_map]
    rfl
  rw [summed, summed, frames, cells]

/-! ### The scheduler marks copies alone (R67, R68) -/

/-- What a copy keeps when its transmission begins. -/
def copyKey (c : CopyEntry) : Nat × Bool := (c.frame, c.marked)

theorem keys_startHead (q : List CopyEntry) : (startHead q).map copyKey = q.map copyKey := by
  cases q <;> rfl

/-- A queue replaced, read back. -/
theorem queueOf_modQueue (cls k : TrafficClass) (p q : Port) (f : List CopyEntry → List CopyEntry) (s : State) :
    queueOf (modQueue cls p f s).buffer k q =
      if k = cls ∧ q = p then f (queueOf s.buffer k q) else queueOf s.buffer k q := by
  by_cases here : q = p
  · subst here
    cases cls <;> cases k <;> simp [queueOf, modQueue, updAt_eq_set]
  · have apart : p.val ≠ q.val := fun same => here (Fin.ext same.symm)
    cases cls <;> cases k <;> simp [queueOf, modQueue, updAt_eq_set, here, Vector.getElem_set_ne _ _ apart]

theorem modQueue_held_get (p q : Port) (f : List CopyEntry → List CopyEntry) (s : State) :
    (modQueue .held p f s).buffer.held[q] = if q = p then f s.buffer.held[q] else s.buffer.held[q] := by
  have read := queueOf_modQueue .held .held p q f s
  simpa only [true_and, queueOf] using read

/-- The queues hold the same copies, of the same records, whether or not in transmission. -/
structure SameFrames (b b' : Buffer) : Prop where
  records : b'.records = b.records
  keys (cls : TrafficClass) (q : Port) : (queueOf b' cls q).map copyKey = (queueOf b cls q).map copyKey

theorem SameFrames.frames {b b' : Buffer} (h : SameFrames b b') (cls : TrafficClass) (q : Port) :
    (queueOf b' cls q).map CopyEntry.frame = (queueOf b cls q).map CopyEntry.frame := by
  have keys := congrArg (List.map Prod.fst) (h.keys cls q)
  rwa [List.map_map, List.map_map] at keys

theorem SameFrames.held {b b' : Buffer} (h : SameFrames b b') (q : Port) :
    b'.held[q].map CopyEntry.frame = b.held[q].map CopyEntry.frame := h.frames .held q

theorem SameFrames.bulk {b b' : Buffer} (h : SameFrames b b') (q : Port) :
    b'.bulk[q].map CopyEntry.frame = b.bulk[q].map CopyEntry.frame := h.frames .bulk q

theorem SameFrames.trans {b b' b'' : Buffer} (h : SameFrames b b') (h' : SameFrames b' b'') : SameFrames b b'' :=
  ⟨h'.records.trans h.records, fun cls q => (h'.keys cls q).trans (h.keys cls q)⟩

theorem SameFrames.of_eq {b b' : Buffer} (records : b'.records = b.records) (held : b'.held = b.held)
    (bulk : b'.bulk = b.bulk) : SameFrames b b' := by
  refine ⟨records, fun cls q => ?_⟩
  cases cls <;> simp only [queueOf, held, bulk]

theorem sameFrames_modQueue (cls : TrafficClass) (p : Port) (s : State) :
    SameFrames s.buffer (modQueue cls p startHead s).buffer := by
  refine ⟨modQueue_buffer_records .., fun k q => ?_⟩
  rw [queueOf_modQueue]
  split_ifs
  · exact keys_startHead _
  · rfl

theorem sameFrames_beginTransmission (cls : TrafficClass) (p : Port) (s : State) :
    SameFrames s.buffer (beginTransmission cls p s).buffer := by
  simp only [beginTransmission]
  repeat' split
  · exact SameFrames.of_eq rfl rfl rfl
  · exact sameFrames_modQueue cls p s
  · exact sameFrames_modQueue cls p s

/-- R67: a selection moves no copy. -/
theorem sameFrames_schedule (p : Port) (s : State) : SameFrames s.buffer (schedule p s).buffer := by
  have streak (n : Nat) : SameFrames s.buffer (setStreak p n s).buffer := SameFrames.of_eq rfl rfl rfl
  simp only [schedule]
  split
  · exact (streak _).trans (sameFrames_beginTransmission ..)
  · exact (streak _).trans (sameFrames_beginTransmission ..)
  · exact SameFrames.of_eq rfl rfl rfl

theorem sameFrames_scheduleAll (ps : List Port) (s : State) : SameFrames s.buffer (scheduleAll ps s).buffer :=
  foldl_invariant (P := fun t => SameFrames s.buffer t.buffer) (fun t p h => h.trans (sameFrames_schedule p t)) ps s
    (SameFrames.of_eq rfl rfl rfl)

/-! ### The state in which a port's queues are emptied -/

/-- The Port Unit has taken a fence or a disable, its PORT-CHANGE raised, and no other block has. -/
structure Entering (p : Port) (s y : State) : Prop where
  directory : y.directory = s.directory
  stations : y.stations = s.stations
  forwarding : y.forwarding = s.forwarding
  buffer : y.buffer = s.buffer
  relief : y.relief = s.relief
  measurement : y.measurement = s.measurement
  billing : y.billing = s.billing
  now : y.now = s.now
  lineOut : y.lineOut = s.lineOut
  freeCount : y.freeCount = s.freeCount
  pending : y.pending = s.pending
  link : y.link = { s.link with notices := changed s.link.notices p }

/-- The Buffer Manager has emptied queues: it writes the buffer, the line and the meters. -/
structure Cleared (y r : State) : Prop where
  directory : r.directory = y.directory
  stations : r.stations = y.stations
  forwarding : r.forwarding = y.forwarding
  relief : r.relief = y.relief
  ports : r.ports = y.ports
  measurement : r.measurement = y.measurement
  billing : bare r.billing = bare y.billing
  now : r.now = y.now
  freeCount : r.freeCount = y.freeCount
  pending : r.pending = y.pending
  link : r.link = y.link

/-- R75: after the queues are emptied, the held queues that changed are evaluated, and the scheduler selects where
copies went. -/
def selected (p : Port) (targets : List Port) (y r : State) : State :=
  scheduleAll targets (evaluateChanged (p :: targets) y r)

theorem billing_of_bare {b b' : Billing} (same : bare b' = bare b) : b' = { b with meters := b'.meters } := by
  obtain ⟨state, overdue, epoch, meters, sel, length, count, elapsed, staged, queue, lock⟩ := b
  obtain ⟨state', overdue', epoch', meters', sel', length', count', elapsed', staged', queue', lock'⟩ := b'
  obtain ⟨rfl, rfl, rfl, -, rfl, rfl, rfl, rfl, rfl, rfl, rfl⟩ := Billing.mk.inj same
  rfl

theorem emptied_selected {p : Port} {targets : List Port} {s y r : State} (entering : Entering p s y)
    (cleared : Cleared y r) : Emptied p s (selected p targets y r) := by
  have relief := evaluateChanged_relief (p :: targets) y r
  have link := evaluateChanged_link (p :: targets) y r
  have reliefKept : (selected p targets y r).relief = (evaluateChanged (p :: targets) y r).relief := by simp [selected]
  have linkKept : (selected p targets y r).link = (evaluateChanged (p :: targets) y r).link := by simp [selected]
  refine ⟨?_, ?_, ?_, ?_, ?_, ?_, ?_, ?_, ?_, ?_⟩
  · simp [selected, cleared.directory, entering.directory]
  · simp [selected, cleared.stations, entering.stations]
  · simp [selected, cleared.forwarding, entering.forwarding]
  · simp [selected, cleared.measurement, entering.measurement]
  · simp [selected, cleared.now, entering.now]
  · simp [selected, cleared.freeCount, entering.freeCount]
  · simp [selected, cleared.pending, entering.pending]
  · rw [reliefKept, ← entering.relief, ← cleared.relief]
    exact relief
  · refine billing_of_bare ?_
    have kept : (selected p targets y r).billing = r.billing := by simp [selected]
    rw [kept, cleared.billing, entering.billing]
  · rw [linkKept]
    refine link.trans ?_
    rw [cleared.link, entering.link]

/-- What every block takes of a fence or a disable, from the state `x` that the emptying leaves beside the ports and
the line. -/
theorem departs_selected {p : Port} {targets : List Port} {s y r x t : State} (entering : Entering p s y)
    (cleared : Cleared y r) (kept : Agrees (selected p targets y r) x) (link : x.link = (selected p targets y r).link)
    (agrees : Agrees (departed p x) t) (buffer : t.buffer = (selected p targets y r).buffer)
    (links : ∀ i : Port, t.ports[i].link = y.ports[i].link) : departs s t p (p :: targets) := by
  have evaluatedBuffer : (evaluateChanged (p :: targets) y r).buffer = r.buffer := by simp
  have frames : SameFrames r.buffer t.buffer := by
    rw [buffer, ← evaluatedBuffer]
    exact sameFrames_scheduleAll ..
  have view : SameView r { s with buffer := t.buffer, ports := t.ports } :=
    ⟨(cleared.relief.trans entering.relief).symm, by rw [cleared.link, entering.link]; rfl,
      fun q => occupancy_congr frames.records (frames.held q), fun q i => cellsFrom_congr frames.records (frames.held q) i,
      fun i => by rw [cleared.ports]; exact links i⟩
  have same := view.evaluateChanged (before := y) (before' := s)
    (fun q => by rw [entering.buffer]) (p :: targets)
  have reliefKept : x.relief = (evaluateChanged (p :: targets) y r).relief := kept.relief.trans (by simp [selected])
  have linkKept : x.link = (evaluateChanged (p :: targets) y r).link := link.trans (by simp [selected])
  exact departs_of ((emptied_selected entering cleared).congr kept link) agrees (same.relief.trans reliefKept.symm)
    (same.notice.trans (congrArg (fun l => l.notices.relief) linkKept).symm)

/-! ### The flush (R73) -/

/-- R73: a port's queues emptied and their copies flushed, before the evaluation. -/
def flushed (p : Port) (s : State) : State :=
  flushCopies (s.buffer.held[p] ++ s.buffer.bulk[p]) (emptyQueues p (abortTransmission p s))

theorem flushPort_eq (p : Port) (s : State) : (flushPort p s).1 = selected p [] s (flushed p s) := rfl

theorem cleared_flushed (p : Port) (s : State) : Cleared s (flushed p s) := by
  constructor <;> simp [flushed]

/-- R73: a flush is read from the buffer, the meters and the line. -/
theorem flushCopy_congr {s t : State} (id : Nat) (buffer : t.buffer = s.buffer) (billing : t.billing = s.billing) :
    (flushCopy id t).buffer = (flushCopy id s).buffer ∧ (flushCopy id t).billing = (flushCopy id s).billing := by
  simp only [flushCopy, buffer]
  split
  · exact ⟨by simp only [dropCopy, reportFlushed, report_eq, buffer],
      by simp only [dropCopy, reportFlushed, report_eq, billing]⟩
  · exact ⟨buffer, billing⟩

theorem flushCopies_congr (cs : List CopyEntry) {s t : State} (buffer : t.buffer = s.buffer)
    (billing : t.billing = s.billing) :
    (flushCopies cs t).buffer = (flushCopies cs s).buffer ∧ (flushCopies cs t).billing = (flushCopies cs s).billing := by
  induction cs generalizing s t with
  | nil => exact ⟨buffer, billing⟩
  | cons c cs ih =>
    obtain ⟨buffer, billing⟩ := flushCopy_congr c.frame buffer billing
    exact ih buffer billing

theorem emptyQueues_congr (p : Port) {s t : State} (buffer : t.buffer = s.buffer) :
    (emptyQueues p t).buffer = (emptyQueues p s).buffer := by
  simp only [emptyQueues, setStreak, modQueue, buffer]

theorem abortTransmission_lineOut (p : Port) (s : State) :
    (abortTransmission p s).lineOut = s.lineOut ++ if lineBusy s p = true then [.abort p] else [] := by
  simp only [abortTransmission]
  split_ifs
  · rfl
  · exact (List.append_nil _).symm

theorem flushPort_congr (p : Port) {s t : State} (buffer : t.buffer = s.buffer) (billing : t.billing = s.billing)
    (lineOut : t.lineOut = s.lineOut) :
    (flushPort p t).1.buffer = (flushPort p s).1.buffer ∧ (flushPort p t).1.billing = (flushPort p s).1.billing ∧
      (flushPort p t).1.lineOut = (flushPort p s).1.lineOut := by
  have emptied : (emptyQueues p (abortTransmission p t)).buffer = (emptyQueues p (abortTransmission p s)).buffer :=
    emptyQueues_congr p (by simp [buffer])
  obtain ⟨sameBuffer, sameBilling⟩ := flushCopies_congr (s.buffer.held[p] ++ s.buffer.bulk[p]) emptied
    (by simp [billing])
  simp only [flushPort, evaluateIfChanged_keeps, buffer]
  refine ⟨sameBuffer, sameBilling, ?_⟩
  simp only [flushCopies_keeps, emptyQueues_keeps, abortTransmission_lineOut, lineOut, lineBusy_congr buffer]

/-- R73: the queues of a flushed port are empty, its streak 0. -/
theorem flushPort_empty (p : Port) (s : State) :
    (flushPort p s).1.buffer.held[p] = [] ∧ (flushPort p s).1.buffer.bulk[p] = [] ∧
      (flushPort p s).1.buffer.streak[p] = 0 := by
  simp [flushPort, emptyQueues, modQueue, setStreak, updAt_eq_set]

/-! ### The disable (R119) -/

/-- The Port Unit's part in a disable, before the other blocks'. -/
def disableEntered (p : Port) (s : State) : State := cutReception p none (setLink p .disabled s)

theorem disablePort_eq (p : Port) (s : State) :
    disablePort p s = resetMonitors p (endBreak p (departed p (flushPort p (disableEntered p s)).1)) := rfl

theorem entering_disable (p : Port) (s : State) : Entering p s (disableEntered p s) := by
  constructor
  case link => simp [disableEntered, setLink_link]
  all_goals simp [disableEntered]

theorem alters_disableEntered (p : Port) (s : State) :
    Alters p
      (fun u =>
        { u with
          link := .disabled
          reception := u.reception.map fun r => { r with changed := true, cut := true, silencedAt := none } }) s
      (disableEntered p s) := by
  have cut : Alters p _ s (cutReception p none (setLink p .disabled s)) :=
    (alters_setLink p .disabled s).trans (Alters.of_modPort p _ _)
  refine cut.congr ?_
  simp [Option.map_map, Function.comp_def]

theorem agrees_disable (p : Port) (s : State) :
    Agrees (departed p (flushPort p (disableEntered p s)).1) (disablePort p s) := by
  rw [disablePort_eq]
  constructor <;> simp

/-- R140: none of a port's requests is pending where they are withdrawn. -/
theorem hasPending_of_withdrawn {s t : State} {p : Port} (h : t.measurement = (withdrawn p s).measurement) :
    hasPending t p = false := by
  have lists : (withdrawn p s).measurement.recovery = s.measurement.recovery.filter (fun r => r.port != p) ∧
      (withdrawn p s).measurement.host = s.measurement.host.filter (fun r => r.port != p) := by
    simp only [withdrawn]
    split_ifs
    · exact ⟨rfl, rfl⟩
    · exact ⟨rfl, rfl⟩
  simp only [hasPending, h, lists]
  simp

/-- Settles O39: the port's unit, its flushed queues, and `departs_selected` for the other blocks. -/
theorem disableResetsThePort : Obligations.DisableResetsThePort := by
  intro p s u t flushed
  have entering := entering_disable p s
  have alters := alters_disablePort p s
  obtain ⟨buffer, billing, lineOut⟩ := flushPort_congr p entering.buffer entering.billing entering.lineOut
  have sameBuffer : t.buffer = flushed.buffer := (disablePort_buffer p s).trans buffer
  obtain ⟨held, bulk, streak⟩ := flushPort_empty p s
  have entered := alters_disableEntered p s
  have links (i : Port) : t.ports[i].link = (disableEntered p s).ports[i].link := by
    by_cases here : i = p
    · subst here
      exact (congrArg PortUnit.link alters.self).trans (congrArg PortUnit.link entered.self).symm
    · exact congrArg PortUnit.link ((alters.other here).trans (entered.other here).symm)
  have departs : departs s t p [p] :=
    departs_selected (targets := []) entering (cleared_flushed p _) (Agrees.refl _) rfl (agrees_disable p s)
      (disablePort_buffer p s) links
  refine ⟨alters.self, fun q other => alters.other other, ?_, ?_, ?_, sameBuffer, ?_, ?_, departs, ?_, ?_⟩
  · rw [sameBuffer]
    exact held
  · rw [sameBuffer]
    exact bulk
  · rw [sameBuffer]
    exact streak
  · rw [← billing]
    simp [t, disablePort_eq]
  · have ports : (flushPort p (disableEntered p s)).1.ports[p].breakTimer = u.breakTimer := by
      rw [(flushPort_keeps p _).2.2.2.2.1]
      exact (congrArg PortUnit.breakTimer entered.self).trans rfl
    rw [← lineOut]
    simp only [t, disablePort_eq, resetMonitors_keeps, endBreak_lineOut, departed_keeps, ports]
  · obtain ⟨-, -, -, -, -, -, -, -, -, -, measurement, -⟩ := departs
    exact hasPending_of_withdrawn measurement
  · have link := (emptied_selected (targets := []) entering (cleared_flushed p _)).link
    have kept : t.link.notices.fault = (flushPort p (disableEntered p s)).1.link.notices.fault := by
      simp [t, disablePort_eq, departed_link]
    rw [kept, flushPort_eq, link]
    rfl

end Sys2Proof.Machine

/-! The stored-frame records over the copies that stand for them (R58, R59), and what copies that leave, one after
another, make of the records and of the meters (R73). -/

namespace Sys2Proof.Machine

open Sys2Proof Sys2Proof.Safety

/-! ### Records by their ids -/

/-- Among records of rising ids, the record of an id is the one found by it. -/
theorem lookup_eq_some_of_mem {rs : List (Nat × StoredFrame)} (rising : (rs.map Prod.fst).Pairwise (· < ·))
    {id : Nat} {r : StoredFrame} (h : (id, r) ∈ rs) : rs.lookup id = some r := by
  induction rs with
  | nil => cases h
  | cons x rs ih =>
    obtain ⟨first, rising⟩ := List.pairwise_cons.mp rising
    obtain rfl | h := List.mem_cons.mp h
    · exact List.lookup_cons_self
    · have later : x.1 < id := first id (List.mem_map.mpr ⟨_, h, rfl⟩)
      rw [List.lookup_cons, beq_eq_false_iff_ne.mpr (by omega : id ≠ x.1)]
      exact ih rising h

theorem mem_of_lookup_eq_some {rs : List (Nat × StoredFrame)} {id : Nat} {r : StoredFrame}
    (h : rs.lookup id = some r) : (id, r) ∈ rs := by
  obtain ⟨before, after, rfl, -⟩ := List.lookup_eq_some_iff.mp h
  exact List.mem_append_right _ List.mem_cons_self

/-- R58: the records after a copy's leaving. -/
def dropRecord (id : Nat) (rs : List (Nat × StoredFrame)) : List (Nat × StoredFrame) :=
  rs.filterMap fun kr =>
    if kr.1 = id then
      if kr.2.copiesRemaining ≤ 1 then none
      else some (kr.1, { kr.2 with copiesRemaining := kr.2.copiesRemaining - 1 })
    else some kr

@[simp] theorem dropCopy_records (id : Nat) (s : State) :
    (dropCopy id s).buffer.records = dropRecord id s.buffer.records := rfl

theorem dropRecord_cons (id : Nat) (x : Nat × StoredFrame) (rs : List (Nat × StoredFrame)) :
    dropRecord id (x :: rs) =
      if x.1 = id then
        if x.2.copiesRemaining ≤ 1 then dropRecord id rs
        else (x.1, { x.2 with copiesRemaining := x.2.copiesRemaining - 1 }) :: dropRecord id rs
      else x :: dropRecord id rs := by
  simp only [dropRecord, List.filterMap_cons]
  split_ifs <;> rfl

/-- A leaving brings in no id. -/
theorem dropRecord_keys (id : Nat) (rs : List (Nat × StoredFrame)) :
    ((dropRecord id rs).map Prod.fst).Sublist (rs.map Prod.fst) := by
  induction rs with
  | nil => exact List.Sublist.refl _
  | cons x rs ih =>
    rw [dropRecord_cons]
    split_ifs
    · exact ih.cons _
    · exact ih.cons_cons _
    · exact ih.cons_cons _

/-- A leaving lowers the count of its record, and keeps the others. -/
theorem mem_dropRecord {id : Nat} {rs : List (Nat × StoredFrame)} {kr : Nat × StoredFrame} :
    kr ∈ dropRecord id rs ↔
      (kr ∈ rs ∧ kr.1 ≠ id) ∨
        ∃ r, (id, r) ∈ rs ∧ 1 < r.copiesRemaining ∧
          kr = (id, { r with copiesRemaining := r.copiesRemaining - 1 }) := by
  simp only [dropRecord, List.mem_filterMap]
  constructor
  · rintro ⟨x, listed, left⟩
    split_ifs at left with same few
    · obtain rfl := Option.some.inj left
      subst same
      exact Or.inr ⟨x.2, listed, Nat.lt_of_not_le few, rfl⟩
    · obtain rfl := Option.some.inj left
      exact Or.inl ⟨listed, same⟩
  · rintro (⟨listed, other⟩ | ⟨r, listed, many, rfl⟩)
    · exact ⟨kr, listed, by rw [if_neg other]⟩
    · exact ⟨(id, r), listed, by rw [if_pos rfl, if_neg (Nat.not_le_of_lt many)]⟩

/-! ### Records over their copies (R58, R59) -/

/-- The records are sound over the copies whose ids are given. -/
structure RecordsSound (rs : List (Nat × StoredFrame)) (copies : Multiset Nat) : Prop where
  rising : (rs.map Prod.fst).Pairwise (· < ·)
  small : ∀ kr ∈ rs, kr.1 < 8192
  copied : ∀ id ∈ copies, id ∈ rs.map Prod.fst
  counted : ∀ kr ∈ rs, 1 ≤ kr.2.length ∧ 1 ≤ kr.2.copiesRemaining ∧ kr.2.copiesRemaining = copies.count kr.1

/-- The bytes that a copy of an id holds for a tenant. -/
def bytesFor (rs : List (Nat × StoredFrame)) (t : TenantId) (id : Nat) : Nat :=
  match rs.lookup id with
  | some r => if r.tenant = t then r.length else 0
  | none => 0

theorem bytesFor_of_lookup {rs : List (Nat × StoredFrame)} {id : Nat} {r : StoredFrame} (h : rs.lookup id = some r)
    (t : TenantId) : bytesFor rs t id = if r.tenant = t then r.length else 0 := by
  simp only [bytesFor, h]

/-- The record of a copy. -/
theorem RecordsSound.lookup {rs : List (Nat × StoredFrame)} {copies : Multiset Nat} (h : RecordsSound rs copies)
    {id : Nat} (copied : id ∈ copies) : ∃ r, (id, r) ∈ rs ∧ rs.lookup id = some r := by
  obtain ⟨⟨k, r⟩, listed, rfl⟩ := List.mem_map.mp (h.copied id copied)
  exact ⟨r, listed, lookup_eq_some_of_mem h.rising listed⟩

/-- R58: where a copy leaves, its record counts one less, and goes with the last. -/
theorem RecordsSound.drop {rs : List (Nat × StoredFrame)} {copies : Multiset Nat} {id : Nat}
    (h : RecordsSound rs (id ::ₘ copies)) : RecordsSound (dropRecord id rs) copies := by
  have keys := dropRecord_keys id rs
  refine ⟨h.rising.sublist keys, fun kr listed => ?_, fun other copied => ?_, fun kr listed => ?_⟩
  · obtain ⟨x, old, same⟩ := List.mem_map.mp (keys.subset (List.mem_map.mpr ⟨kr, listed, rfl⟩))
    rw [← same]
    exact h.small x old
  · obtain ⟨r, old, -⟩ := h.lookup (Multiset.mem_cons_of_mem copied)
    obtain ⟨-, -, count⟩ := h.counted _ old
    by_cases here : other = id
    · subst here
      rw [Multiset.count_cons_self] at count
      simp only at count
      have more := Multiset.one_le_count_iff_mem.mpr copied
      exact List.mem_map.mpr ⟨_, mem_dropRecord.mpr (Or.inr ⟨r, old, by omega, rfl⟩), rfl⟩
    · exact List.mem_map.mpr ⟨_, mem_dropRecord.mpr (Or.inl ⟨old, here⟩), rfl⟩
  · obtain ⟨old, other⟩ | ⟨r, old, many, rfl⟩ := mem_dropRecord.mp listed
    · have counted := h.counted kr old
      rwa [Multiset.count_cons_of_ne other] at counted
    · obtain ⟨length, -, count⟩ := h.counted _ old
      rw [Multiset.count_cons_self] at count
      simp only at count
      exact ⟨length, by simp only; omega, by simp only; omega⟩

/-- A copy's leaving keeps the tenant and the length of the records that stay. -/
theorem bytesFor_drop {rs : List (Nat × StoredFrame)} {copies : Multiset Nat} {id : Nat}
    (h : RecordsSound rs (id ::ₘ copies)) (t : TenantId) {other : Nat} (copied : other ∈ copies) :
    bytesFor (dropRecord id rs) t other = bytesFor rs t other := by
  obtain ⟨r, old, found⟩ := h.lookup (Multiset.mem_cons_of_mem copied)
  obtain ⟨r', left, found'⟩ := h.drop.lookup copied
  rw [bytesFor_of_lookup found, bytesFor_of_lookup found']
  obtain ⟨same, -⟩ | ⟨r₀, old', -, eq⟩ := mem_dropRecord.mp left
  · rw [lookup_eq_some_of_mem h.rising same] at found
    rw [Option.some.inj found]
  · obtain ⟨rfl, rfl⟩ := Prod.mk.inj eq
    rw [lookup_eq_some_of_mem h.rising old'] at found
    rw [← Option.some.inj found]

/-- R58, R59: the buffer is sound where its records are over its copies. -/
theorem bufferSound_iff (b : Buffer) : bufferSound b ↔ RecordsSound b.records (copyIds b) := by
  have ids : ((allCopies b).map CopyEntry.frame : Multiset Nat) = copyIds b := by
    simp only [allCopies, copyIds, List.map_flatMap]
    induction List.finRange 40 with
    | nil => rfl
    | cons p ps ih =>
      rw [List.flatMap_cons, List.map_cons, List.sum_cons, ← Multiset.coe_add, ih, ← idsOf_append]
      rfl
  have counts (id : Nat) : (allCopies b).countP (fun c => c.frame == id) = (copyIds b).count id := by
    rw [← ids, Multiset.coe_count, List.count, List.countP_map]
    rfl
  have members (P : Nat → Prop) : (∀ c ∈ allCopies b, P c.frame) ↔ ∀ id ∈ copyIds b, P id := by
    rw [← ids]
    simp
  constructor
  · rintro ⟨rising, small, copied, counted⟩
    refine ⟨rising, small, (members fun id => id ∈ b.records.map Prod.fst).mp copied, fun kr listed => ?_⟩
    rw [← counts]
    exact counted kr listed
  · rintro ⟨rising, small, copied, counted⟩
    refine ⟨rising, small, (members fun id => id ∈ b.records.map Prod.fst).mpr copied, fun kr listed => ?_⟩
    rw [counts]
    exact counted kr listed

/-! ### Records after copies leave -/

theorem lookup_none_of_not_mem {rs : List (Nat × StoredFrame)} {id : Nat} (h : id ∉ rs.map Prod.fst) :
    rs.lookup id = none := by
  cases found : rs.lookup id with
  | none => rfl
  | some r => exact absurd (List.mem_map.mpr ⟨_, mem_of_lookup_eq_some found, rfl⟩) h

theorem lookup_dropRecord_other {rs : List (Nat × StoredFrame)} {id k : Nat} (h : k ≠ id) :
    (dropRecord id rs).lookup k = rs.lookup k := by
  induction rs with
  | nil => rfl
  | cons x rs ih =>
    rw [dropRecord_cons]
    by_cases here : x.1 = id
    · have other : (k == x.1) = false := beq_eq_false_iff_ne.mpr fun same => h (same.trans here)
      have skipped : (x :: rs).lookup k = rs.lookup k := by rw [List.lookup_cons, other]
      rw [if_pos here, skipped, ← ih]
      split_ifs
      · rfl
      · rw [List.lookup_cons, other]
    · rw [if_neg here, List.lookup_cons, List.lookup_cons, ih]

/-- R58: the record of the copy that leaves. -/
theorem lookup_dropRecord_self {rs : List (Nat × StoredFrame)} {id : Nat} {r : StoredFrame}
    (rising : (rs.map Prod.fst).Pairwise (· < ·)) (h : rs.lookup id = some r) :
    (dropRecord id rs).lookup id =
      if r.copiesRemaining ≤ 1 then none else some { r with copiesRemaining := r.copiesRemaining - 1 } := by
  have listed := mem_of_lookup_eq_some h
  have kept := rising.sublist (dropRecord_keys id rs)
  split_ifs with few
  · refine lookup_none_of_not_mem fun still => ?_
    obtain ⟨kr, left, same⟩ := List.mem_map.mp still
    obtain ⟨-, other⟩ | ⟨r', old, many, -⟩ := mem_dropRecord.mp left
    · exact other same
    · rw [lookup_eq_some_of_mem rising old] at h
      exact absurd few (Nat.not_le_of_lt (Option.some.inj h ▸ many))
  · exact lookup_eq_some_of_mem kept (mem_dropRecord.mpr (Or.inr ⟨r, listed, Nat.lt_of_not_le few, rfl⟩))

/-! ### Meters after a report -/

/-- The meters after a report. -/
theorem report_meters (x : TenantId) (f : Meters → Meters) (s : State) (t : TenantId) :
    (report x f s).billing.meters[t] =
      if s.billing.state ≠ .stopped ∧ t = x then s.billing.meters[t].map f else s.billing.meters[t] := by
  simp only [report]
  by_cases stopped : s.billing.state = .stopped
  · simp [stopped]
  · by_cases here : t = x
    · subst here
      simp [stopped, -Fin.getElem_fin]
    · simp [stopped, here, -Fin.getElem_fin, updAt_other here]

/-! ### Copies flushed one after another (R73) -/

theorem flushCopy_of_lookup {id : Nat} {s : State} {r : StoredFrame} (h : s.buffer.records.lookup id = some r) :
    flushCopy id s = dropCopy id (reportFlushed r.tenant r.length s) := by
  simp only [flushCopy, frameOf?, h]

theorem flushCopy_records {id : Nat} {s : State} {r : StoredFrame} (h : s.buffer.records.lookup id = some r) :
    (flushCopy id s).buffer.records = dropRecord id s.buffer.records := by
  rw [flushCopy_of_lookup h]
  simp

/-- A flush is read from the records and the meters. -/
theorem flushCopy_records_congr {s t : State} (id : Nat) (records : t.buffer.records = s.buffer.records)
    (billing : t.billing = s.billing) :
    (flushCopy id t).buffer.records = (flushCopy id s).buffer.records ∧
      (flushCopy id t).billing = (flushCopy id s).billing := by
  simp only [flushCopy, frameOf?, records]
  split
  · exact ⟨by simp only [dropCopy, reportFlushed, report_eq, records],
      by simp only [dropCopy, reportFlushed, report_eq, billing]⟩
  · exact ⟨records, billing⟩

theorem flushCopies_records_congr (cs : List CopyEntry) {s t : State} (records : t.buffer.records = s.buffer.records)
    (billing : t.billing = s.billing) :
    (flushCopies cs t).buffer.records = (flushCopies cs s).buffer.records ∧
      (flushCopies cs t).billing = (flushCopies cs s).billing := by
  induction cs generalizing s t with
  | nil => exact ⟨records, billing⟩
  | cons c cs ih =>
    obtain ⟨records, billing⟩ := flushCopy_records_congr c.frame records billing
    exact ih records billing

theorem flushCopies_append (cs ds : List CopyEntry) (s : State) :
    flushCopies (cs ++ ds) s = flushCopies ds (flushCopies cs s) :=
  List.foldl_append

theorem flushCopies_cons (c : CopyEntry) (cs : List CopyEntry) (s : State) :
    flushCopies (c :: cs) s = flushCopies cs (flushCopy c.frame s) := rfl

/-- R58: copies that are flushed leave the records sound over the others. -/
theorem RecordsSound.flushCopy {id : Nat} {copies : Multiset Nat} {s : State}
    (h : RecordsSound s.buffer.records (id ::ₘ copies)) : RecordsSound (flushCopy id s).buffer.records copies := by
  obtain ⟨r, -, found⟩ := h.lookup (Multiset.mem_cons_self id copies)
  rw [flushCopy_records found]
  exact h.drop

theorem RecordsSound.flushCopies (cs : List CopyEntry) {copies : Multiset Nat} {s : State}
    (h : RecordsSound s.buffer.records (idsOf cs + copies)) :
    RecordsSound (flushCopies cs s).buffer.records copies := by
  induction cs generalizing s with
  | nil => simpa [Machine.flushCopies] using h
  | cons c cs ih =>
    rw [idsOf_cons, Multiset.cons_add] at h
    exact ih h.flushCopy

/-- A record that is not there is not there after a flush. -/
theorem lookup_flushCopies_none {id : Nat} (cs : List CopyEntry) {s : State}
    (h : s.buffer.records.lookup id = none) : (flushCopies cs s).buffer.records.lookup id = none := by
  induction cs generalizing s with
  | nil => exact h
  | cons c cs ih =>
    refine ih ?_
    cases found : s.buffer.records.lookup c.frame with
    | none => simpa only [flushCopy, frameOf?, found] using h
    | some r =>
      have other : id ≠ c.frame := by
        rintro rfl
        rw [h] at found
        cases found
      rw [flushCopy_records found, lookup_dropRecord_other other, h]

/-- R58, R73: a record counts what its flushed copies leave, and goes with the last. -/
theorem lookup_flushCopies {id : Nat} {r : StoredFrame} (cs : List CopyEntry) {copies : Multiset Nat} {s : State}
    (h : RecordsSound s.buffer.records (idsOf cs + copies)) (found : s.buffer.records.lookup id = some r) :
    (flushCopies cs s).buffer.records.lookup id =
      if r.copiesRemaining = cs.countP (fun c => c.frame == id) then none
      else some { r with copiesRemaining := r.copiesRemaining - cs.countP fun c => c.frame == id } := by
  induction cs generalizing s r with
  | nil =>
    obtain ⟨-, some, -⟩ := h.counted _ (mem_of_lookup_eq_some found)
    have standing : r.copiesRemaining ≠ 0 := Nat.one_le_iff_ne_zero.mp some
    simpa [flushCopies, standing] using found
  | cons c cs ih =>
    rw [idsOf_cons, Multiset.cons_add] at h
    obtain ⟨x, -, named⟩ := h.lookup (Multiset.mem_cons_self c.frame _)
    rw [flushCopies_cons]
    by_cases here : c.frame = id
    · subst here
      obtain rfl : x = r := Option.some.inj (named.symm.trans found)
      have counts : (c :: cs).countP (fun d => d.frame == c.frame) = cs.countP (fun d => d.frame == c.frame) + 1 :=
        List.countP_cons_of_pos (by simp)
      have left := lookup_dropRecord_self h.rising found
      rw [← flushCopy_records found] at left
      obtain ⟨-, -, count⟩ := h.counted _ (mem_of_lookup_eq_some found)
      simp only [Multiset.count_cons_self, Multiset.count_add] at count
      have among : (idsOf cs).count c.frame = cs.countP fun d => d.frame == c.frame := by
        rw [idsOf, Multiset.coe_count, List.count, List.countP_map]
        rfl
      rw [among] at count
      rw [counts]
      split_ifs at left with few
      · rw [lookup_flushCopies_none cs left, if_pos (by omega)]
      · rw [ih h.flushCopy left]
        simp only
        split_ifs with last last
        · rfl
        · omega
        · omega
        · rw [Nat.sub_sub, Nat.add_comm]
    · have counts : (c :: cs).countP (fun d => d.frame == id) = cs.countP (fun d => d.frame == id) :=
        List.countP_cons_of_neg (by simpa using here)
      have kept : (flushCopy c.frame s).buffer.records.lookup id = some r := by
        rw [flushCopy_records named, lookup_dropRecord_other (Ne.symm here), found]
      rw [ih h.flushCopy kept, counts]

/-- R61: the bytes that copies hold are read record by record. -/
theorem queueBytes_eq (b : Buffer) (t : TenantId) (q : List CopyEntry) :
    queueBytes b t q = (q.map fun c => bytesFor b.records t c.frame).sum := rfl

/-- R73: the flushed bytes of a tenant are those that its flushed copies held. -/
theorem meters_flushCopies {u : TenantId} {m : Meters} (cs : List CopyEntry) {copies : Multiset Nat} {s : State}
    (h : RecordsSound s.buffer.records (idsOf cs + copies)) (running : s.billing.state ≠ .stopped)
    (standing : s.billing.meters[u] = some m) :
    (flushCopies cs s).billing.meters[u] =
      some { m with flushedBytes := m.flushedBytes + BitVec.ofNat 64 (queueBytes s.buffer u cs) } := by
  induction cs generalizing s m with
  | nil => simpa [flushCopies, queueBytes] using standing
  | cons c cs ih =>
    rw [idsOf_cons, Multiset.cons_add] at h
    obtain ⟨r, -, named⟩ := h.lookup (Multiset.mem_cons_self c.frame _)
    have billing : (flushCopy c.frame s).billing = (reportFlushed r.tenant r.length s).billing := by
      rw [flushCopy_of_lookup named]
      simp
    have runs : (flushCopy c.frame s).billing.state ≠ .stopped := by
      rw [billing, reportFlushed, report_eq, if_neg running]
      exact running
    have rest : queueBytes (flushCopy c.frame s).buffer u cs = queueBytes s.buffer u cs := by
      rw [queueBytes_eq, queueBytes_eq, flushCopy_records named]
      refine congrArg List.sum (List.map_congr_left fun d listed => bytesFor_drop h u (Multiset.mem_add.mpr (Or.inl ?_)))
      exact Multiset.mem_coe.mpr (List.mem_map.mpr ⟨d, listed, rfl⟩)
    have first : queueBytes s.buffer u (c :: cs) =
        (if r.tenant = u then r.length else 0) + queueBytes s.buffer u cs := by
      rw [← bytesFor_of_lookup named u]
      rfl
    have charged : (flushCopy c.frame s).billing.meters[u] =
        some { m with flushedBytes := m.flushedBytes + BitVec.ofNat 64 (if r.tenant = u then r.length else 0) } := by
      rw [billing, reportFlushed, report_meters, standing]
      by_cases own : u = r.tenant
      · rw [if_pos ⟨running, own⟩, if_pos own.symm]
        rfl
      · rw [if_neg fun both => own both.2, if_neg (Ne.symm own)]
        simp
    rw [flushCopies_cons, ih h.flushCopy runs charged, rest, first, BitVec.ofNat_add, BitVec.add_assoc]

end Sys2Proof.Machine

/-! The re-home of a fenced trunk's queues (R75, R76): where each copy goes, and what is flushed. -/

namespace Sys2Proof.Machine

open Sys2Proof Sys2Proof.Safety

/-! ### Where a held copy goes (R75) -/

/-- R75: the member selected, as the statements write it. -/
theorem rehomeTarget_eq (s : State) (p : Port) (c : CopyEntry) : rehomeTarget s p c = rehomeMember s p c := by
  have members (g : Group) : (trunkPorts (groupTables s g).up).filter (· ≠ p) =
      (List.finRange 40).filter fun q =>
        decide (32 ≤ q.val) && (groupTables s g).up.getLsbD (q.val - 32) && q != p := by
    rw [trunkPorts_eq, List.filter_filter]
    refine List.filter_congr fun q _ => ?_
    rw [Bool.and_comm]
    simp [bne, Bool.beq_eq_decide_eq]
  simp only [rehomeTarget, rehomeMember]
  cases groupOfPort s p with
  | none => rfl
  | some g =>
    cases frameOf? s.buffer c.frame with
    | none => rfl
    | some r =>
      simp only [selectMemberExcept, selectFrom, members]

/-- R75: the member is read from the forwarding tables and the flow hash of the frame. -/
theorem rehomeMember_congr {s t : State} {p : Port} {c : CopyEntry} (forwarding : t.forwarding = s.forwarding)
    (hash : (t.buffer.records.lookup c.frame).map StoredFrame.flowHash =
      (s.buffer.records.lookup c.frame).map StoredFrame.flowHash) : rehomeMember t p c = rehomeMember s p c := by
  simp only [rehomeMember, groupOfPort_congr forwarding, groupTables_congr forwarding, frameOf?]
  cases groupOfPort s p with
  | none => rfl
  | some g =>
    cases before : s.buffer.records.lookup c.frame with
    | none =>
      rw [before] at hash
      rw [Option.map_eq_none_iff.mp hash]
    | some r =>
      rw [before] at hash
      obtain ⟨r', after, same⟩ := Option.map_eq_some_iff.mp hash
      simp only [after, same]

/-- The fenced port is no member. -/
theorem rehomeMember_ne {s : State} {p m : Port} {c : CopyEntry} (h : rehomeMember s p c = some m) : m ≠ p := by
  simp only [rehomeMember] at h
  split at h
  next g r _ _ =>
    have member := List.mem_of_getElem? h
    simp only [List.mem_filter, Bool.and_eq_true, bne_iff_ne] at member
    exact member.2.2
  next => cases h

/-- R73: the copies that stay in the buffer keep the flow hash of their frames. -/
theorem flowHash_flushCopies {id : Nat} (cs : List CopyEntry) {copies : Multiset Nat} {s : State}
    (h : RecordsSound s.buffer.records (idsOf cs + copies)) (copied : id ∈ copies) :
    ((flushCopies cs s).buffer.records.lookup id).map StoredFrame.flowHash =
      (s.buffer.records.lookup id).map StoredFrame.flowHash := by
  obtain ⟨r, -, before⟩ := h.lookup (Multiset.mem_add.mpr (Or.inr copied))
  obtain ⟨r', -, after⟩ := (h.flushCopies cs).lookup copied
  have left := lookup_flushCopies cs h before
  rw [after] at left
  rw [before, after]
  split_ifs at left
  rw [Option.some.inj left]
  rfl

/-! ### The waiting held copies one after another (R75) -/

theorem rehomeHeld_cons (p : Port) (c : CopyEntry) (cs : List CopyEntry) (s : State) :
    rehomeHeld p (c :: cs) s =
      rehomeHeld p cs
        (match rehomeMember s p c with
          | some m => modQueue .held m (· ++ [c]) s
          | none => flushCopy c.frame s) := by
  simp only [rehomeHeld, List.foldl_cons, rehomeTarget_eq] <;> rfl

theorem rehomeHeld_cons_moved {p m : Port} {c : CopyEntry} {s : State} (h : rehomeMember s p c = some m)
    (cs : List CopyEntry) : rehomeHeld p (c :: cs) s = rehomeHeld p cs (modQueue .held m (· ++ [c]) s) := by
  rw [rehomeHeld_cons, h]

theorem rehomeHeld_cons_lost {p : Port} {c : CopyEntry} {s : State} (h : rehomeMember s p c = none)
    (cs : List CopyEntry) : rehomeHeld p (c :: cs) s = rehomeHeld p cs (flushCopy c.frame s) := by
  rw [rehomeHeld_cons, h]

/-- R75: the fenced port's held queue takes no copy, and no bulk queue does. -/
theorem rehomeHeld_queues (p : Port) (cs : List CopyEntry) (s : State) :
    (rehomeHeld p cs s).buffer.held[p] = s.buffer.held[p] ∧ (rehomeHeld p cs s).buffer.bulk = s.buffer.bulk := by
  induction cs generalizing s with
  | nil => exact ⟨rfl, rfl⟩
  | cons c cs ih =>
    cases goes : rehomeMember s p c with
    | some m =>
      obtain ⟨held, bulk⟩ := ih (modQueue .held m (· ++ [c]) s)
      rw [rehomeHeld_cons_moved goes]
      rw [modQueue_held_get, if_neg (Ne.symm (rehomeMember_ne goes))] at held
      exact ⟨held, bulk⟩
    | none =>
      obtain ⟨held, bulk⟩ := ih (flushCopy c.frame s)
      rw [rehomeHeld_cons_lost goes]
      obtain ⟨sameHeld, sameBulk, -⟩ := flushCopy_queues c.frame s
      rw [sameHeld] at held
      exact ⟨held, bulk.trans sameBulk⟩

/-- R143: a stopped billing is told nothing. -/
theorem flushCopy_billing_of_stopped {s : State} (h : s.billing.state = .stopped) (id : Nat) :
    (flushCopy id s).billing = s.billing := by
  simp only [flushCopy]
  split
  · simp only [dropCopy_keeps, reportFlushed, report_eq, if_pos h]
  · rfl

theorem flushCopies_billing_of_stopped {s : State} (h : s.billing.state = .stopped) (cs : List CopyEntry) :
    (flushCopies cs s).billing = s.billing :=
  foldl_invariant (P := fun t => t.billing = s.billing)
    (fun _ c same => (flushCopy_billing_of_stopped (same ▸ h) c.frame).trans same) cs s rfl

theorem rehomeHeld_billing_of_stopped {s : State} (h : s.billing.state = .stopped) (p : Port) (cs : List CopyEntry) :
    (rehomeHeld p cs s).billing = s.billing := by
  refine foldl_invariant (P := fun t => t.billing = s.billing) (fun t c same => ?_) cs s rfl
  split
  · exact same
  · exact (flushCopy_billing_of_stopped (same ▸ h) c.frame).trans same

/-- R75: of sound records the waiting copies go where their frames' hashes say: the others' records are flushed, and
the members' queues take theirs, in order. -/
theorem rehomeHeld_sound (p : Port) (cs : List CopyEntry) {member : CopyEntry → Option Port} {copies : Multiset Nat}
    {s : State} (h : RecordsSound s.buffer.records (idsOf cs + copies))
    (goes : ∀ c ∈ cs, rehomeMember s p c = member c) :
    (rehomeHeld p cs s).buffer.records = (flushCopies (cs.filter fun c => (member c).isNone) s).buffer.records ∧
      (rehomeHeld p cs s).billing = (flushCopies (cs.filter fun c => (member c).isNone) s).billing ∧
      ∀ q : Port, (rehomeHeld p cs s).buffer.held[q] =
        s.buffer.held[q] ++ cs.filter fun c => member c == some q := by
  induction cs generalizing s copies with
  | nil => exact ⟨rfl, rfl, fun q => (List.append_nil _).symm⟩
  | cons c cs ih =>
    rw [idsOf_cons, Multiset.cons_add] at h
    have first := goes c List.mem_cons_self
    cases stands : member c with
    | some m =>
      rw [rehomeHeld_cons_moved (first.trans stands)]
      obtain ⟨records, billing, held⟩ := ih (s := modQueue .held m (· ++ [c]) s) (copies := c.frame ::ₘ copies)
        (by rw [Multiset.add_cons]; exact h)
        fun d listed => (rehomeMember_congr rfl rfl).trans (goes d (List.mem_cons_of_mem _ listed))
      have kept : (c :: cs).filter (fun d => (member d).isNone) = cs.filter fun d => (member d).isNone :=
        List.filter_cons_of_neg (by simp [stands])
      obtain ⟨sameRecords, sameBilling⟩ := flushCopies_records_congr (cs.filter fun d => (member d).isNone)
        (s := s) (t := modQueue .held m (· ++ [c]) s) rfl rfl
      rw [kept]
      refine ⟨records.trans sameRecords, billing.trans sameBilling, fun q => ?_⟩
      rw [held, modQueue_held_get, List.filter_cons, stands]
      by_cases here : q = m
      · subst here
        simp
      · simp [here, Ne.symm here]
    | none =>
      rw [rehomeHeld_cons_lost (first.trans stands)]
      have one : flushCopies [c] s = flushCopy c.frame s := rfl
      obtain ⟨records, billing, held⟩ := ih (s := flushCopy c.frame s) h.flushCopy fun d listed => by
        refine (rehomeMember_congr (by simp) ?_).trans (goes d (List.mem_cons_of_mem _ listed))
        rw [← one]
        refine flowHash_flushCopies [c] (copies := idsOf cs + copies) (by simpa using h) (Multiset.mem_add.mpr (Or.inl ?_))
        exact Multiset.mem_coe.mpr (List.mem_map.mpr ⟨d, listed, rfl⟩)
      have kept : (c :: cs).filter (fun d => (member d).isNone) = c :: cs.filter fun d => (member d).isNone :=
        List.filter_cons_of_pos (by simp [stands])
      rw [kept, flushCopies_cons]
      refine ⟨records, billing, fun q => ?_⟩
      have other : ¬(member c == some q) = true := by simp [stands]
      rw [held, (flushCopy_queues c.frame s).1, List.filter_cons_of_neg (p := fun c => member c == some q) other]

/-! ### The parts of a re-home (R75) -/

/-- R75: the copies of a fenced trunk that are flushed first: those in transmission and the bulk copies. -/
def sendingCopies (p : Port) (s : State) : List CopyEntry :=
  (s.buffer.held[p].filter CopyEntry.inTransmission ++ s.buffer.bulk[p].filter CopyEntry.inTransmission) ++
    s.buffer.bulk[p].filter fun c => !c.inTransmission

/-- R75: the held copies that wait. -/
def waitingCopies (p : Port) (s : State) : List CopyEntry := s.buffer.held[p].filter fun c => !c.inTransmission

/-- R75: a fenced trunk's queues empty, and the copies that cannot move flushed. -/
def sendingFlushed (p : Port) (s : State) : State :=
  flushCopies (sendingCopies p s) (emptyQueues p (abortTransmission p s))

/-- R75: the members to which waiting copies go. -/
def rehomeTargets (p : Port) (s : State) : List Port :=
  (waitingCopies p s).filterMap (rehomeTarget (sendingFlushed p s) p)

theorem rehomePort_eq (p : Port) (s : State) :
    rehomePort p s =
      (selected p (rehomeTargets p s) s (rehomeHeld p (waitingCopies p s) (sendingFlushed p s)),
        s.buffer.held[p].length + s.buffer.bulk[p].length - (rehomeTargets p s).length, (rehomeTargets p s).length) := by
  have flushes : sendingFlushed p s =
      flushCopies (s.buffer.bulk[p].filter fun c => !c.inTransmission)
        (flushCopies (s.buffer.held[p].filter CopyEntry.inTransmission ++
          s.buffer.bulk[p].filter CopyEntry.inTransmission) (emptyQueues p (abortTransmission p s))) :=
    flushCopies_append ..
  simp only [rehomePort, rehomeTargets, flushes, selected, waitingCopies]

theorem rehomeTargets_ne {p q : Port} {s : State} (h : q ∈ rehomeTargets p s) : q ≠ p := by
  obtain ⟨c, -, goes⟩ := List.mem_filterMap.mp h
  rw [rehomeTarget_eq] at goes
  exact rehomeMember_ne goes

/-- R75: no more copies move than the held queue has. -/
theorem length_rehomeTargets_le (p : Port) (s : State) : (rehomeTargets p s).length ≤ s.buffer.held[p].length :=
  (List.length_filterMap_le ..).trans (List.length_filter_le ..)

theorem cleared_rehomed (p : Port) (s : State) :
    Cleared s (rehomeHeld p (waitingCopies p s) (sendingFlushed p s)) := by
  constructor <;> simp [sendingFlushed]

/-- The records are sound over the copies of a fenced trunk and the copies of the other queues. -/
theorem recordsSound_emptied {p : Port} {s : State} (h : bufferSound s.buffer) :
    RecordsSound (emptyQueues p (abortTransmission p s)).buffer.records
      (idsOf (s.buffer.held[p] ++ s.buffer.bulk[p]) + copyIds (emptyQueues p (abortTransmission p s)).buffer) := by
  have aborted : (abortTransmission p s).buffer = s.buffer := by simp
  have emptied := copyIds_emptyQueues p (abortTransmission p s)
  rw [aborted] at emptied
  rw [add_comm, ← emptied]
  simpa using (bufferSound_iff _).mp h

theorem perm_sendingCopies (p : Port) (s : State) :
    (sendingCopies p s ++ waitingCopies p s).Perm (s.buffer.held[p] ++ s.buffer.bulk[p]) := by
  have held := List.filter_append_perm CopyEntry.inTransmission s.buffer.held[p]
  have bulk := List.filter_append_perm CopyEntry.inTransmission s.buffer.bulk[p]
  refine List.Perm.trans ?_ (held.append bulk)
  simp only [sendingCopies, waitingCopies, List.append_assoc]
  refine List.Perm.append_left _ ?_
  rw [← List.append_assoc]
  exact List.perm_append_comm

theorem recordsSound_parted {p : Port} {s : State} (h : bufferSound s.buffer) :
    RecordsSound (emptyQueues p (abortTransmission p s)).buffer.records
      (idsOf (sendingCopies p s) +
        (idsOf (waitingCopies p s) + copyIds (emptyQueues p (abortTransmission p s)).buffer)) := by
  have sound := recordsSound_emptied (p := p) h
  have parted : idsOf (s.buffer.held[p] ++ s.buffer.bulk[p]) =
      idsOf (sendingCopies p s) + idsOf (waitingCopies p s) := by
    rw [← idsOf_append]
    exact Multiset.coe_eq_coe.mpr ((perm_sendingCopies p s).symm.map _)
  rwa [parted, add_assoc] at sound

/-- R75: of a sound buffer the waiting copies go where the statements say. -/
theorem rehomeMember_sendingFlushed {p : Port} {s : State} (h : bufferSound s.buffer) {c : CopyEntry}
    (listed : c ∈ waitingCopies p s) : rehomeMember (sendingFlushed p s) p c = rehomeMember s p c := by
  refine rehomeMember_congr (by simp [sendingFlushed]) ?_
  have copied : c.frame ∈ idsOf (waitingCopies p s) + copyIds (emptyQueues p (abortTransmission p s)).buffer :=
    Multiset.mem_add.mpr (Or.inl (Multiset.mem_coe.mpr (List.mem_map.mpr ⟨c, listed, rfl⟩)))
  refine (flowHash_flushCopies _ (recordsSound_parted h) copied).trans ?_
  simp

theorem moves_of_trunk {p : Port} (trunk : isStation p = false) (s : State) (c : CopyEntry) :
    moves s p c = (!c.inTransmission && (rehomeMember s p c).isSome) := by
  simp [moves, trunk]

/-- R75: the members to which copies go, as the statements write them. -/
theorem rehomeTargets_of_sound {p : Port} {s : State} (h : bufferSound s.buffer) (trunk : isStation p = false) :
    rehomeTargets p s = (s.buffer.held[p].filter (moves s p)).filterMap (rehomeMember s p) := by
  have goes : rehomeTargets p s = (waitingCopies p s).filterMap (rehomeMember s p) :=
    List.filterMap_congr fun c listed => (rehomeTarget_eq ..).trans (rehomeMember_sendingFlushed h listed)
  rw [goes, waitingCopies, List.filterMap_filter, List.filterMap_filter]
  refine List.filterMap_congr fun c _ => ?_
  rw [moves_of_trunk trunk]
  cases c.inTransmission <;> cases rehomeMember s p c <;> simp

end Sys2Proof.Machine

/-! The fence (R123 to R126, R124): its port, its capture, and what every block takes of it. -/

namespace Sys2Proof.Machine

open Sys2Proof Sys2Proof.Safety

/-! ### What the scheduler reads and leaves (R67, R68) -/

/-- R67: a selection is read from the buffer, the line's record and the port's unit. -/
theorem beginTransmission_congr (cls : TrafficClass) (q : Port) {s t : State} (buffer : t.buffer = s.buffer)
    (lineOut : t.lineOut = s.lineOut) :
    (beginTransmission cls q t).buffer = (beginTransmission cls q s).buffer ∧
      (beginTransmission cls q t).lineOut = (beginTransmission cls q s).lineOut := by
  simp only [beginTransmission, buffer]
  split
  · exact ⟨buffer, lineOut⟩
  · have queue : (modQueue cls q startHead t).buffer = (modQueue cls q startHead s).buffer := by
      cases cls <;> simp only [modQueue, buffer]
    have line : (modQueue cls q startHead t).lineOut = (modQueue cls q startHead s).lineOut := by
      simp [lineOut]
    split
    · exact ⟨queue, by simp only [emit, line]⟩
    · exact ⟨queue, line⟩

theorem schedule_congr {q : Port} {s t : State} (buffer : t.buffer = s.buffer) (lineOut : t.lineOut = s.lineOut)
    (ports : t.ports[q] = s.ports[q]) :
    (schedule q t).buffer = (schedule q s).buffer ∧ (schedule q t).lineOut = (schedule q s).lineOut := by
  have selects : selection t q = selection s q := by
    unfold selection heldEligible
    rw [lineBusy_congr buffer, buffer, ports]
  have streak (n : Nat) : (setStreak q n t).buffer = (setStreak q n s).buffer := by simp only [setStreak, buffer]
  simp only [schedule, selects]
  split
  · rw [buffer]
    exact beginTransmission_congr .held q (streak _) lineOut
  · exact beginTransmission_congr .bulk q (streak _) lineOut
  · exact ⟨buffer, lineOut⟩

theorem scheduleAll_congr (ps : List Port) {s t : State} (buffer : t.buffer = s.buffer)
    (lineOut : t.lineOut = s.lineOut) (ports : ∀ q ∈ ps, t.ports[q] = s.ports[q]) :
    (scheduleAll ps t).buffer = (scheduleAll ps s).buffer ∧ (scheduleAll ps t).lineOut = (scheduleAll ps s).lineOut := by
  induction ps generalizing s t with
  | nil => exact ⟨buffer, lineOut⟩
  | cons p ps ih =>
    obtain ⟨sameBuffer, sameLine⟩ := schedule_congr buffer lineOut (ports p List.mem_cons_self)
    refine ih sameBuffer sameLine fun q listed => ?_
    rw [(schedule_keeps p t).2.2.2.2.1, (schedule_keeps p s).2.2.2.2.1]
    exact ports q (List.mem_cons_of_mem _ listed)

/-- R67: a selection writes the streak of its port. -/
theorem schedule_streak_other {p q : Port} (h : p ≠ q) (s : State) :
    (schedule q s).buffer.streak[p] = s.buffer.streak[p] := by
  have streak (n : Nat) : (setStreak q n s).buffer.streak[p] = s.buffer.streak[p] :=
    Vector.getElem_set_ne q.isLt p.isLt fun same => h (Fin.ext same.symm)
  have begins (cls : TrafficClass) (n : Nat) :
      (beginTransmission cls q (setStreak q n s)).buffer.streak[p] = s.buffer.streak[p] := by
    rw [beginTransmission_streak]
    exact streak n
  cases chosen : selection s q with
  | none => simp only [schedule, chosen]
  | some cls =>
    cases cls <;> simp only [schedule, chosen] <;> exact begins _ _

theorem scheduleAll_streak_other {p : Port} {ps : List Port} (h : ∀ q ∈ ps, q ≠ p) (s : State) :
    (scheduleAll ps s).buffer.streak[p] = s.buffer.streak[p] := by
  induction ps generalizing s with
  | nil => rfl
  | cons q ps ih =>
    exact (ih (fun x listed => h x (List.mem_cons_of_mem _ listed)) (schedule q s)).trans
      (schedule_streak_other (Ne.symm (h q List.mem_cons_self)) s)

/-- What has gone out on the lines stays. -/
theorem mem_lineOut_schedule {o : LineOut} {s : State} (h : o ∈ s.lineOut) (q : Port) : o ∈ (schedule q s).lineOut := by
  have begins (cls : TrafficClass) (n : Nat) : o ∈ (beginTransmission cls q (setStreak q n s)).lineOut := by
    simp only [beginTransmission]
    repeat' split
    · exact h
    · simp only [emit, List.mem_append]
      exact Or.inl (by simpa [setStreak] using h)
    · simpa [setStreak] using h
  simp only [schedule]
  split
  · exact begins _ _
  · exact begins _ _
  · exact h

theorem mem_lineOut_scheduleAll {o : LineOut} {s : State} (h : o ∈ s.lineOut) (ps : List Port) :
    o ∈ (scheduleAll ps s).lineOut :=
  foldl_invariant (P := fun t => o ∈ t.lineOut) (fun _ q listed => mem_lineOut_schedule listed q) ps s h

/-! ### The Buffer Manager's part in a fence (R124) -/

/-- The members to which a fenced port's copies go. -/
def fenceTargets (p : Port) (s : State) : List Port := if isStation p then [] else rehomeTargets p s

/-- A fenced port's queues empty and its copies flushed or moved. -/
def fenceCleared (p : Port) (s : State) : State :=
  if isStation p then flushed p s else rehomeHeld p (waitingCopies p s) (sendingFlushed p s)

/-- The numbers of copies that a fence flushes and moves. -/
def fenceCounts (p : Port) (s : State) : Nat × Nat :=
  (s.buffer.held[p].length + s.buffer.bulk[p].length - (fenceTargets p s).length, (fenceTargets p s).length)

theorem fenceBuffer_eq (p : Port) (s : State) :
    fenceBuffer p s =
      modPort p (unpaused (fenceCounts p s).1 (fenceCounts p s).2)
        (selected p (fenceTargets p s) s (fenceCleared p s)) := by
  cases station : isStation p with
  | true =>
    have counts : (flushPort p s).2 = s.buffer.held[p].length + s.buffer.bulk[p].length := List.length_append
    simp only [fenceBuffer_of_station station, flushPort_eq, counts, fenceCounts, fenceTargets, fenceCleared, station,
      if_true, List.length_nil, Nat.sub_zero]
  | false =>
    simp only [fenceBuffer_of_trunk station, rehomePort_eq, fenceCounts, fenceTargets, fenceCleared, station,
      Bool.false_eq_true, if_false]

theorem cleared_fence (p : Port) (s : State) : Cleared s (fenceCleared p s) := by
  simp only [fenceCleared]
  split_ifs
  · exact cleared_flushed p s
  · exact cleared_rehomed p s

theorem fenceTargets_ne {p q : Port} {s : State} (h : q ∈ fenceTargets p s) : q ≠ p := by
  simp only [fenceTargets] at h
  split_ifs at h
  · cases h
  · exact rehomeTargets_ne h

theorem length_fenceTargets_le (p : Port) (s : State) : (fenceTargets p s).length ≤ s.buffer.held[p].length := by
  simp only [fenceTargets]
  split_ifs
  · exact Nat.zero_le _
  · exact length_rehomeTargets_le p s

/-- The queues of a fenced port are empty; the other bulk queues are as they were. -/
theorem fenceCleared_queues (p : Port) (s : State) :
    (fenceCleared p s).buffer.held[p] = [] ∧ (fenceCleared p s).buffer.bulk[p] = [] ∧
      (fenceCleared p s).buffer.streak = s.buffer.streak.set p 0 ∧
      ∀ q : Port, q ≠ p → (fenceCleared p s).buffer.bulk[q] = s.buffer.bulk[q] := by
  have emptied : (emptyQueues p (abortTransmission p s)).buffer.held[p] = [] ∧
      (emptyQueues p (abortTransmission p s)).buffer.bulk[p] = [] ∧
      ∀ q : Port, q ≠ p → (emptyQueues p (abortTransmission p s)).buffer.bulk[q] = s.buffer.bulk[q] := by
    refine ⟨?_, ?_, fun q other => ?_⟩
    · simp [emptyQueues, modQueue, setStreak, updAt_eq_set]
    · simp [emptyQueues, modQueue, setStreak, updAt_eq_set]
    · have apart : p.val ≠ q.val := fun same => other (Fin.ext same.symm)
      simp [emptyQueues, modQueue, setStreak, updAt_eq_set, Vector.getElem_set_ne _ _ apart]
  obtain ⟨held, bulk, others⟩ := emptied
  cases station : isStation p with
  | true =>
    obtain ⟨sameHeld, sameBulk, sameStreak⟩ := flushCopies_queues (s.buffer.held[p] ++ s.buffer.bulk[p])
      (emptyQueues p (abortTransmission p s))
    have cleared : fenceCleared p s = flushed p s := if_pos station
    rw [cleared, flushed, sameHeld, sameBulk, sameStreak]
    exact ⟨held, bulk, by simp, others⟩
  | false =>
    obtain ⟨sameHeld, sameBulk, sameStreak⟩ := flushCopies_queues (sendingCopies p s)
      (emptyQueues p (abortTransmission p s))
    obtain ⟨heldKept, bulkKept⟩ := rehomeHeld_queues p (waitingCopies p s) (sendingFlushed p s)
    have cleared : fenceCleared p s = rehomeHeld p (waitingCopies p s) (sendingFlushed p s) :=
      if_neg (Bool.eq_false_iff.mp station)
    rw [cleared, heldKept, bulkKept, rehomeHeld_streak, sendingFlushed, sameHeld, sameBulk, sameStreak]
    exact ⟨held, bulk, by simp, others⟩

theorem fenceCleared_lineOut (p : Port) (s : State) :
    (fenceCleared p s).lineOut = s.lineOut ++ if lineBusy s p = true then [.abort p] else [] := by
  simp only [fenceCleared]
  split_ifs <;> simp_all [flushed, sendingFlushed, abortTransmission_lineOut]

theorem fenceCleared_billing_of_stopped {s : State} (h : s.billing.state = .stopped) (p : Port) :
    (fenceCleared p s).billing = s.billing := by
  have emptied : (emptyQueues p (abortTransmission p s)).billing = s.billing := by simp
  have stops : (emptyQueues p (abortTransmission p s)).billing.state = .stopped := emptied ▸ h
  have flushes (cs : List CopyEntry) := flushCopies_billing_of_stopped stops cs
  simp only [fenceCleared]
  split_ifs
  · exact (flushes _).trans emptied
  · have sent : (sendingFlushed p s).billing = s.billing := (flushes _).trans emptied
    exact (rehomeHeld_billing_of_stopped (sent ▸ h) p _).trans sent

/-! ### The Buffer Manager's part, of a sound buffer -/

theorem moves_of_station {p : Port} (station : isStation p = true) (s : State) (c : CopyEntry) :
    moves s p c = false := by
  simp [moves, station]

theorem fenceTargets_of_sound {p : Port} {s : State} (h : bufferSound s.buffer) :
    fenceTargets p s = (s.buffer.held[p].filter (moves s p)).filterMap (rehomeMember s p) := by
  cases station : isStation p with
  | true =>
    have none : s.buffer.held[p].filter (moves s p) = [] :=
      List.filter_eq_nil_iff.mpr fun c _ => by simp [moves_of_station station]
    rw [fenceTargets, if_pos station, none]
    rfl
  | false =>
    simp only [fenceTargets, station, Bool.false_eq_true, if_false]
    exact rehomeTargets_of_sound h station

theorem length_fenceTargets {p : Port} {s : State} (h : bufferSound s.buffer) :
    (fenceTargets p s).length = s.buffer.held[p].countP (moves s p) := by
  rw [fenceTargets_of_sound h, List.length_filterMap_eq_countP, List.countP_filter]
  refine List.countP_congr fun c _ => ?_
  simp only [moves, Bool.and_eq_true]
  exact and_iff_right_of_imp fun moving => moving.2

/-- R75: the held queues after a fence, before the scheduler selects. -/
theorem fenceCleared_held {p : Port} {s : State} (h : bufferSound s.buffer) {q : Port} (other : q ≠ p) :
    (fenceCleared p s).buffer.held[q] =
      s.buffer.held[q] ++ s.buffer.held[p].filter fun c => moves s p c && rehomeMember s p c == some q := by
  have apart : p.val ≠ q.val := fun same => other (Fin.ext same.symm)
  have emptied : (emptyQueues p (abortTransmission p s)).buffer.held[q] = s.buffer.held[q] := by
    simp [emptyQueues, modQueue, setStreak, updAt_eq_set, Vector.getElem_set_ne _ _ apart]
  cases station : isStation p with
  | true =>
    have none : s.buffer.held[p].filter (fun c => moves s p c && rehomeMember s p c == some q) = [] :=
      List.filter_eq_nil_iff.mpr fun c _ => by simp [moves_of_station station]
    simp only [fenceCleared, station, if_true, flushed, flushCopies_queues, none, List.append_nil]
    exact emptied
  | false =>
    obtain ⟨-, -, held⟩ := rehomeHeld_sound p (waitingCopies p s) ((recordsSound_parted h).flushCopies _)
      fun c listed => rehomeMember_sendingFlushed h listed
    simp only [fenceCleared, station, Bool.false_eq_true, if_false]
    have sent : (flushCopies (sendingCopies p s) (emptyQueues p (abortTransmission p s))).buffer.held[q] =
        s.buffer.held[q] := by
      simp only [flushCopies_queues]
      exact emptied
    refine (held q).trans ?_
    rw [sent, waitingCopies, List.filter_filter]
    refine congrArg (s.buffer.held[q] ++ ·) (List.filter_congr fun c _ => ?_)
    rw [moves_of_trunk station]
    cases member : rehomeMember s p c <;> simp [Bool.and_comm]

/-- R75: the copies of a fenced trunk that are flushed, in the order in which they are, are those that are lost. -/
theorem perm_lostCopies {p : Port} (trunk : isStation p = false) (s : State) :
    (sendingCopies p s ++ (waitingCopies p s).filter fun c => (rehomeMember s p c).isNone).Perm (lostCopies s p) := by
  have sent : (s.buffer.held[p].filter fun c => !moves s p c).filter CopyEntry.inTransmission =
      s.buffer.held[p].filter CopyEntry.inTransmission := by
    rw [List.filter_filter]
    refine List.filter_congr fun c _ => ?_
    rw [moves_of_trunk trunk]
    cases c.inTransmission <;> simp
  have stay : (s.buffer.held[p].filter fun c => !moves s p c).filter (fun c => !c.inTransmission) =
      (waitingCopies p s).filter fun c => (rehomeMember s p c).isNone := by
    rw [waitingCopies, List.filter_filter, List.filter_filter]
    refine List.filter_congr fun c _ => ?_
    rw [moves_of_trunk trunk]
    cases c.inTransmission <;> cases rehomeMember s p c <;> simp
  have held := List.filter_append_perm CopyEntry.inTransmission (s.buffer.held[p].filter fun c => !moves s p c)
  have bulk := List.filter_append_perm CopyEntry.inTransmission s.buffer.bulk[p]
  rw [sent, stay] at held
  refine List.Perm.trans ?_ (held.append bulk)
  rw [← Multiset.coe_eq_coe]
  simp only [sendingCopies, ← Multiset.coe_add]
  ac_rfl

/-- R73, R75: of a sound buffer the records and the meters are those that the flush of the lost copies leaves. -/
theorem fenceCleared_flushes {p : Port} {s : State} (h : bufferSound s.buffer) :
    ∃ lost : List CopyEntry, lost.Perm (lostCopies s p) ∧
      (fenceCleared p s).buffer.records = (flushCopies lost s).buffer.records ∧
      (fenceCleared p s).billing = (flushCopies lost s).billing := by
  have before (cs : List CopyEntry) :=
    flushCopies_records_congr cs (s := s) (t := emptyQueues p (abortTransmission p s)) (by simp) (by simp)
  cases station : isStation p with
  | true =>
    refine ⟨s.buffer.held[p] ++ s.buffer.bulk[p], ?_, ?_⟩
    · have all : s.buffer.held[p].filter (fun c => !moves s p c) = s.buffer.held[p] :=
        List.filter_eq_self.mpr fun c _ => by simp [moves_of_station station]
      rw [lostCopies, all]
    · simp only [fenceCleared, station, if_true]
      exact before _
  | false =>
    obtain ⟨records, billing, -⟩ := rehomeHeld_sound p (waitingCopies p s) ((recordsSound_parted h).flushCopies _)
      fun c listed => rehomeMember_sendingFlushed h listed
    refine ⟨sendingCopies p s ++ (waitingCopies p s).filter fun c => (rehomeMember s p c).isNone, ?_, ?_⟩
    · exact perm_lostCopies station s
    · simp only [fenceCleared, station, Bool.false_eq_true, if_false]
      obtain ⟨sameRecords, sameBilling⟩ :=
        before (sendingCopies p s ++ (waitingCopies p s).filter fun c => (rehomeMember s p c).isNone)
      rw [flushCopies_append] at sameRecords sameBilling
      exact ⟨records.trans sameRecords, billing.trans sameBilling⟩

end Sys2Proof.Machine

/-! The fence (R123 to R126, R129, R131): its port's capture and hold-down, and its effect on every block. -/

namespace Sys2Proof.Machine

open Sys2Proof Sys2Proof.Safety

/-! ### A fence in its parts -/

/-- The state after the Buffer Manager's part and the line's part in a fence. -/
def fenceEmptied (p : Port) (cause : FaultCause) (s : State) : State :=
  fenceLine p (fenceBuffer p (fenceEntered p cause s))

theorem fence_eq_departed (p : Port) (cause : FaultCause) (s : State) :
    fence p cause s = raiseFault p (departed p (fenceEmptied p cause s)) := rfl

theorem entering_fence (p : Port) (cause : FaultCause) (s : State) : Entering p s (fenceEntered p cause s) := by
  constructor
  case link => simp [fenceEntered, setLink_link]
  all_goals simp

/-- What the emptying of the queues makes of the fence's other blocks. -/
theorem agrees_fenceEmptied (p : Port) (cause : FaultCause) (s : State) :
    Agrees
      (selected p (fenceTargets p (fenceEntered p cause s)) (fenceEntered p cause s)
        (fenceCleared p (fenceEntered p cause s))) (fenceEmptied p cause s) := by
  rw [fenceEmptied, fenceBuffer_eq]
  constructor <;> simp

theorem fenceEmptied_link (p : Port) (cause : FaultCause) (s : State) :
    (fenceEmptied p cause s).link =
      (selected p (fenceTargets p (fenceEntered p cause s)) (fenceEntered p cause s)
        (fenceCleared p (fenceEntered p cause s))).link := by
  rw [fenceEmptied, fenceBuffer_eq]
  simp

theorem fenceEmptied_buffer (p : Port) (cause : FaultCause) (s : State) :
    (fenceEmptied p cause s).buffer =
      (selected p (fenceTargets p (fenceEntered p cause s)) (fenceEntered p cause s)
        (fenceCleared p (fenceEntered p cause s))).buffer := by
  rw [fenceEmptied, fenceBuffer_eq]
  simp

theorem agrees_fence (p : Port) (cause : FaultCause) (s : State) :
    Agrees (departed p (fenceEmptied p cause s)) (fence p cause s) := by
  rw [fence_eq_departed]
  constructor
  case link => rfl
  all_goals simp

theorem fence_ports (p : Port) (cause : FaultCause) (s : State) :
    (fence p cause s).ports = (fenceEmptied p cause s).ports := by
  simp [fence_eq_departed]

/-- The Buffer Manager's and the line's parts in a fence alter the unit of the port. -/
theorem alters_fenceEmptied (p : Port) (cause : FaultCause) (s : State) :
    Alters p
      (fun u =>
        { unpaused (fenceCounts p (fenceEntered p cause s)).1 (fenceCounts p (fenceEntered p cause s)).2 u with
          waitingControl := none, waitingBeacon := none, beaconTimer := none
          breakTimer := some (msToUs u.config.breakMs) }) (fenceEntered p cause s) (fence p cause s) := by
  have ports : (selected p (fenceTargets p (fenceEntered p cause s)) (fenceEntered p cause s)
      (fenceCleared p (fenceEntered p cause s))).ports = (fenceEntered p cause s).ports := by
    simp [selected, (cleared_fence p (fenceEntered p cause s)).ports]
  have emptied : Alters p (unpaused (fenceCounts p (fenceEntered p cause s)).1 (fenceCounts p (fenceEntered p cause s)).2)
      (fenceEntered p cause s) (fenceBuffer p (fenceEntered p cause s)) := by
    rw [fenceBuffer_eq]
    exact (Alters.of_keep ports).trans (Alters.of_modPort p _ _)
  exact ((emptied.trans (alters_fenceLine p _)).keep (fence_ports p cause s)).congr rfl

theorem fence_links (p : Port) (cause : FaultCause) (s : State) (i : Port) :
    (fence p cause s).ports[i].link = (fenceEntered p cause s).ports[i].link := by
  have alters := alters_fenceEmptied p cause s
  by_cases here : i = p
  · subst here
    exact (congrArg PortUnit.link alters.self).trans rfl
  · exact congrArg PortUnit.link (alters.other here)

/-- R124: a fence alters its port as the steps of R123 say, with the counts that the Buffer Manager hands back. -/
theorem alters_fence_counted (p : Port) (cause : FaultCause) (s : State) :
    Alters p
      (fencedUnit cause s.now (fenceCounts p (fenceEntered p cause s)).1 (fenceCounts p (fenceEntered p cause s)).2) s
      (fence p cause s) := by
  obtain ⟨flushed, moved, alters⟩ := alters_fence p cause s
  have capture := congrArg PortUnit.capture ((alters_fenceEmptied p cause s).self.symm.trans alters.self)
  obtain ⟨c, -, same⟩ := Option.map_eq_some_iff.mp (capture.trans rfl)
  have sameFlushed : (fenceCounts p (fenceEntered p cause s)).1 = flushed := congrArg Capture.copiesFlushed same
  have sameMoved : (fenceCounts p (fenceEntered p cause s)).2 = moved := congrArg Capture.copiesRehomed same
  rw [sameFlushed, sameMoved]
  exact alters

theorem fence_departs (p : Port) (cause : FaultCause) (s : State) :
    departs s (fence p cause s) p (p :: fenceTargets p (fenceEntered p cause s)) :=
  departs_selected (entering_fence p cause s) (cleared_fence p _) (agrees_fenceEmptied p cause s)
    (fenceEmptied_link p cause s) (agrees_fence p cause s)
    ((by simp [fence_eq_departed] : (fence p cause s).buffer = (fenceEmptied p cause s).buffer).trans
      (fenceEmptied_buffer p cause s)) (fence_links p cause s)

/-- R75: which copies move is read from the forwarding tables and the buffer. -/
theorem moves_congr {s y : State} {p : Port} (forwarding : y.forwarding = s.forwarding) (buffer : y.buffer = s.buffer) :
    rehomeMember y p = rehomeMember s p ∧ moves y p = moves s p := by
  have member : rehomeMember y p = rehomeMember s p := funext fun c => rehomeMember_congr forwarding (by rw [buffer])
  exact ⟨member, funext fun c => by simp only [moves, member]⟩

theorem lostCopies_congr {s y : State} {p : Port} (forwarding : y.forwarding = s.forwarding)
    (buffer : y.buffer = s.buffer) : lostCopies y p = lostCopies s p := by
  simp only [lostCopies, (moves_congr forwarding buffer).2, buffer]

/-- R123 to R126: the unit of a fenced port, as the statements write it. -/
theorem fencedUnit_eq (cause : FaultCause) (now : BitVec 48) (flushed moved : Nat) (u : PortUnit) :
    let flaps := if u.flapWindow = none then 1 else u.flapCount + 1
    let barring := decide (u.config.flapLimit ≤ flaps)
    fencedUnit cause now flushed moved u =
      { u with
        link := if barring = true then .barred else .fenced
        reception := u.reception.map fun r =>
          { r with
            changed := true, cut := true
            silencedAt := if r.cut = false ∧ cause = .silent then some now else none }
        capture :=
          some
            { cause := cause, timestamp := now, stateAtFault := u.link,
              errorCount := u.errorCount, flapCount := flaps, barred := barring,
              copiesFlushed := flushed, copiesRehomed := moved, unread := true,
              overwritten := (u.capture.map Capture.unread).getD false }
        captureCount := u.captureCount + 1
        flapCount := flaps
        flapWindow :=
          if barring = true then none
          else if u.flapWindow = none then some (u.config.flapWindowS * 1000000)
          else u.flapWindow
        holddown :=
          if barring = true then none
          else some (u.config.holddownBaseMs * 2 ^ u.holddownStep * 1000)
        holddownStep := if barring = true then u.holddownStep else min 6 (u.holddownStep + 1)
        errorWindow := if barring = true then none else u.errorWindow
        errorCount := if barring = true then 0 else u.errorCount
        silence := none, quiet := false, quietTimer := none, steady := none, reference := none
        peerPause := none, waitingControl := none, waitingBeacon := none, beaconTimer := none
        breakTimer := some (u.config.breakMs * 1000) } := by
  intro flaps barring
  have count : flapCountAfter u = flaps := by
    simp only [flapCountAfter, flaps]
    cases u.flapWindow <;> rfl
  have bars : isBarring u = barring := by
    simp only [isBarring, count, barring]
  have window : (if u.flapWindow.isSome then u.flapWindow else some (sToUs u.config.flapWindowS)) =
      if u.flapWindow = none then some (u.config.flapWindowS * 1000000) else u.flapWindow := by
    cases u.flapWindow <;> rfl
  have silenced (r : Reception) : (if r.cut then none else if cause = .silent then some now else none) =
      if r.cut = false ∧ cause = .silent then some now else none := by
    cases r.cut <;> simp
  simp only [fencedUnit, count, bars, window, silenced, msToUs]

/-- Settles O44: the unit that the steps of R123 leave, with the counts that the Buffer Manager hands back. -/
theorem fenceWritesTheCaptureAndHolddown : Obligations.FenceWritesTheCaptureAndHolddown := by
  intro p cause s u flaps barring t
  have entering := entering_fence p cause s
  have alters := alters_fence_counted p cause s
  have few := length_fenceTargets_le p (fenceEntered p cause s)
  refine ⟨⟨(fenceCounts p (fenceEntered p cause s)).1, (fenceCounts p (fenceEntered p cause s)).2, ?_, fun station => ?_,
    fun sound => ?_, alters.self.trans (fencedUnit_eq ..)⟩, fun q other => alters.other other, ?_, ?_, ?_⟩
  · simp only [fenceCounts, entering.buffer] at few ⊢
    omega
  · have here : isStation p = true := (isStation_iff p).mpr station
    simp [fenceCounts, fenceTargets, here]
  · have counted := length_fenceTargets (p := p) (s := fenceEntered p cause s) (by rw [entering.buffer]; exact sound)
    rw [(moves_congr entering.forwarding entering.buffer).2, entering.buffer] at counted
    exact counted
  · simp [t, fence_eq_departed, fenceEmptied, fenceLine, emit]
  · have link := (emptied_selected entering (cleared_fence p _)).congr (agrees_fenceEmptied p cause s)
      (fenceEmptied_link p cause s) |>.link
    have before : (departed p (fenceEmptied p cause s)).link.notices.fault = s.link.notices.fault := by
      rw [departed_link, link]
      rfl
    rw [← before]
    rfl
  · obtain ⟨-, -, -, -, -, -, -, -, -, -, -, link, -⟩ := fence_departs p cause s
    rw [show t.link = _ from link]
    rfl

/-! ### What every block takes (R124) -/

theorem fence_buffer_selected (p : Port) (cause : FaultCause) (s : State) :
    (fence p cause s).buffer =
      (scheduleAll (fenceTargets p (fenceEntered p cause s))
        (evaluateChanged (p :: fenceTargets p (fenceEntered p cause s)) (fenceEntered p cause s)
          (fenceCleared p (fenceEntered p cause s)))).buffer := by
  have same : (fence p cause s).buffer = (fenceEmptied p cause s).buffer := by simp [fence_eq_departed]
  exact same.trans (fenceEmptied_buffer p cause s)

theorem fence_lineOut_selected (p : Port) (cause : FaultCause) (s : State) :
    (fence p cause s).lineOut =
      (scheduleAll (fenceTargets p (fenceEntered p cause s))
        (evaluateChanged (p :: fenceTargets p (fenceEntered p cause s)) (fenceEntered p cause s)
          (fenceCleared p (fenceEntered p cause s)))).lineOut ++ [.breakBegin p] := by
  have same : (fence p cause s).lineOut = (fenceEmptied p cause s).lineOut := by simp [fence_eq_departed]
  rw [same, fenceEmptied, fenceBuffer_eq]
  simp [fenceLine, emit, selected]

theorem fence_billing (p : Port) (cause : FaultCause) (s : State) :
    (fence p cause s).billing = (fenceCleared p (fenceEntered p cause s)).billing := by
  have same : (fence p cause s).billing = (fenceEmptied p cause s).billing := by simp [fence_eq_departed]
  rw [same, fenceEmptied, fenceBuffer_eq]
  simp [selected]

/-- The queues hold the frames that the Buffer Manager leaves in them. -/
theorem fence_frames (p : Port) (cause : FaultCause) (s : State) :
    SameFrames (fenceCleared p (fenceEntered p cause s)).buffer (fence p cause s).buffer := by
  have evaluated : (evaluateChanged (p :: fenceTargets p (fenceEntered p cause s)) (fenceEntered p cause s)
      (fenceCleared p (fenceEntered p cause s))).buffer = (fenceCleared p (fenceEntered p cause s)).buffer := by simp
  rw [fence_buffer_selected, ← evaluated]
  exact sameFrames_scheduleAll ..

theorem nil_of_frames {q : List CopyEntry} (h : q.map CopyEntry.frame = ([] : List CopyEntry).map CopyEntry.frame) :
    q = [] :=
  List.map_eq_nil_iff.mp h

/-- R75: the scheduler's selections after a fence, from the state before it with the Buffer Manager's queues. -/
theorem fence_selections (p : Port) (cause : FaultCause) (s : State) :
    let v : State :=
      (fenceTargets p (fenceEntered p cause s)).foldl (fun acc q => schedule q acc)
        { s with
          buffer := (fenceCleared p (fenceEntered p cause s)).buffer
          lineOut := s.lineOut ++ if lineBusy s p = true then [.abort p] else [] }
    (fence p cause s).buffer = v.buffer ∧ (fence p cause s).lineOut = v.lineOut ++ [.breakBegin p] := by
  have entering := entering_fence p cause s
  have busy : lineBusy (fenceEntered p cause s) p = lineBusy s p := lineBusy_congr entering.buffer p
  obtain ⟨buffer, lineOut⟩ := scheduleAll_congr (fenceTargets p (fenceEntered p cause s))
    (s := { s with
      buffer := (fenceCleared p (fenceEntered p cause s)).buffer
      lineOut := s.lineOut ++ if lineBusy s p = true then [.abort p] else [] })
    (t := evaluateChanged (p :: fenceTargets p (fenceEntered p cause s)) (fenceEntered p cause s)
      (fenceCleared p (fenceEntered p cause s))) (by simp)
    (by simp only [evaluateChanged_keeps, fenceCleared_lineOut, busy, entering.lineOut])
    fun q listed => by
      have other := fenceTargets_ne listed
      have ports := ((alters_fenceEmptied p cause s).other other).symm.trans ((alters_fence_counted p cause s).other other)
      simpa [(cleared_fence p (fenceEntered p cause s)).ports] using ports
  exact ⟨(fence_buffer_selected p cause s).trans buffer,
    (fence_lineOut_selected p cause s).trans (congrArg (· ++ [LineOut.breakBegin p]) lineOut)⟩

/-- R73: the records after a fence of a sound buffer. -/
theorem fence_records {p : Port} {cause : FaultCause} {s : State} (sound : bufferSound s.buffer) :
    ∃ lost : List CopyEntry, lost.Perm (lostCopies s p) ∧
      (fence p cause s).buffer.records = (flushCopies lost s).buffer.records ∧
      (fence p cause s).billing = (flushCopies lost s).billing := by
  have entering := entering_fence p cause s
  obtain ⟨lost, perm, records, billing⟩ :=
    fenceCleared_flushes (p := p) (s := fenceEntered p cause s) (by rw [entering.buffer]; exact sound)
  obtain ⟨sameRecords, sameBilling⟩ := flushCopies_records_congr lost (s := s) (t := fenceEntered p cause s)
    (by rw [entering.buffer]) entering.billing
  rw [lostCopies_congr entering.forwarding entering.buffer] at perm
  exact ⟨lost, perm, (fence_frames p cause s).records.trans (records.trans sameRecords),
    (fence_billing p cause s).trans (billing.trans sameBilling)⟩

/-- The records are sound over the copies that a fence flushes and others. -/
theorem recordsSound_lost {p : Port} {s : State} (sound : bufferSound s.buffer) {lost : List CopyEntry}
    (perm : lost.Perm (lostCopies s p)) :
    ∃ copies : Multiset Nat, RecordsSound s.buffer.records (idsOf lost + copies) := by
  have parted := recordsSound_emptied (p := p) sound
  have held := List.filter_append_perm (fun c => !moves s p c) s.buffer.held[p]
  have ids : idsOf (s.buffer.held[p] ++ s.buffer.bulk[p]) =
      idsOf lost + idsOf (s.buffer.held[p].filter fun c => !!moves s p c) := by
    have split : idsOf s.buffer.held[p] =
        idsOf (s.buffer.held[p].filter fun c => !moves s p c) +
          idsOf (s.buffer.held[p].filter fun c => !!moves s p c) := by
      rw [← idsOf_append]
      exact Multiset.coe_eq_coe.mpr (held.symm.map _)
    have same : idsOf lost = idsOf (lostCopies s p) := Multiset.coe_eq_coe.mpr (perm.map _)
    rw [same, lostCopies, idsOf_append, idsOf_append, split]
    ac_rfl
  rw [ids, add_assoc] at parted
  exact ⟨_, by simpa using parted⟩

/-- Settles O45: `departs_selected` for the blocks beside the buffer; of a sound buffer, the flush of the lost
copies. -/
theorem fenceIsTakenByEveryBlock : Obligations.FenceIsTakenByEveryBlock := by
  intro p cause s t
  have entering := entering_fence p cause s
  have frames := fence_frames p cause s
  have departs := fence_departs p cause s
  obtain ⟨held, bulk, streak, others⟩ := fenceCleared_queues p (fenceEntered p cause s)
  obtain ⟨buffer, lineOut⟩ := fence_selections p cause s
  refine ⟨nil_of_frames (held ▸ frames.held p), nil_of_frames (bulk ▸ frames.bulk p), ?_, ?_, fun busy => ?_,
    fun stopped => ?_, fun q other => ?_, ?_, fun sound => ⟨fun id r found => ?_, fun u m running standing => ?_⟩⟩
  · have kept := scheduleAll_streak_other (p := p) (ps := fenceTargets p (fenceEntered p cause s))
      (fun q listed => fenceTargets_ne listed)
      (evaluateChanged (p :: fenceTargets p (fenceEntered p cause s)) (fenceEntered p cause s)
        (fenceCleared p (fenceEntered p cause s)))
    rw [show t.buffer = _ from fence_buffer_selected p cause s, kept]
    simp [streak]
  · obtain ⟨-, -, -, -, -, -, -, -, -, -, measurement, -⟩ := departs
    exact hasPending_of_withdrawn measurement
  · rw [show t.lineOut = _ from lineOut]
    refine List.mem_append_left _ (mem_lineOut_scheduleAll ?_ _)
    simp [busy]
  · rw [show t.billing = _ from fence_billing p cause s,
      fenceCleared_billing_of_stopped (by rw [entering.billing]; exact stopped), entering.billing]
  · rw [show t.buffer.bulk[q].map CopyEntry.frame = _ from frames.bulk q, others q other, entering.buffer]
  · refine ⟨fenceTargets p (fenceEntered p cause s), (fenceCleared p (fenceEntered p cause s)).buffer, fun sound => ?_,
      departs, frames.records.symm, ?_, held, bulk, fun q other => ⟨?_, fun sound => ?_⟩, buffer, lineOut⟩
    · rw [fenceTargets_of_sound (by rw [entering.buffer]; exact sound),
        (moves_congr entering.forwarding entering.buffer).1, (moves_congr entering.forwarding entering.buffer).2,
        entering.buffer]
    · rw [streak, entering.buffer]
    · rw [others q other, entering.buffer]
    · rw [fenceCleared_held (by rw [entering.buffer]; exact sound) other,
        (moves_congr entering.forwarding entering.buffer).1, (moves_congr entering.forwarding entering.buffer).2,
        entering.buffer]
  · obtain ⟨lost, perm, records, -⟩ := fence_records (p := p) (cause := cause) sound
    obtain ⟨copies, parted⟩ := recordsSound_lost sound perm
    intro count
    rw [frameOf?, show t.buffer.records = _ from records, lookup_flushCopies lost parted found, perm.countP_eq]
  · obtain ⟨lost, perm, -, billing⟩ := fence_records (p := p) (cause := cause) sound
    obtain ⟨copies, parted⟩ := recordsSound_lost sound perm
    have bytes : queueBytes s.buffer u lost = queueBytes s.buffer u (lostCopies s p) := (perm.map _).sum_eq
    rw [show t.billing = _ from billing, meters_flushCopies lost parted running standing, bytes]

end Sys2Proof.Machine

/-! Copies that leave by a completion or a flush (R69, R70, R73, R74). -/

namespace Sys2Proof.Machine

open Sys2Proof Sys2Proof.Safety

/-! ### The end of a data frame on a line (R105) -/

theorem sendWaiting_ports (p : Port) (s : State) :
    (sendWaiting p s).ports = (modPort p (fun x => { x with waitingControl := none, waitingBeacon := none }) s).ports := by
  simp only [sendWaiting]
  cases s.ports[p].waitingControl <;> cases beacon : s.ports[p].waitingBeacon <;>
    simp [-Fin.getElem_fin, emit, beacon, modPort]

theorem sendWaiting_lineOut (p : Port) (s : State) :
    (sendWaiting p s).lineOut =
      s.lineOut ++ (s.ports[p].waitingControl.map (LineOut.control p)).toList ++
        (s.ports[p].waitingBeacon.map (LineOut.beacon p)).toList := by
  simp only [sendWaiting]
  cases control : s.ports[p].waitingControl <;> cases beacon : s.ports[p].waitingBeacon <;>
    simp [-Fin.getElem_fin, emit, beacon]

/-! ### A copy delivered (R69) -/

theorem deliverCopy_of_lookup {id : Nat} {s : State} {r : StoredFrame} (h : s.buffer.records.lookup id = some r) :
    deliverCopy id s = dropCopy id (reportDelivered r.tenant r.length s) := by
  simp only [deliverCopy, frameOf?, h]

/-- R143: the meters that a delivery leaves. -/
theorem deliverCopy_billing {id : Nat} {s : State} {r : StoredFrame} (h : s.buffer.records.lookup id = some r) :
    (deliverCopy id s).billing =
      if s.billing.state = .stopped then s.billing
      else
        { s.billing with
          meters :=
            s.billing.meters.set r.tenant
              (s.billing.meters[r.tenant].map fun m =>
                { m with
                  deliveredBytes := m.deliveredBytes + BitVec.ofNat 64 r.length
                  deliveredCopies := m.deliveredCopies + 1 }) } := by
  rw [deliverCopy_of_lookup h, (dropCopy_keeps _ _).2.2.2.2.2.2.1, reportDelivered, report_eq]

/-- R69: the state in which the scheduler selects after a completion. -/
def headDelivered (cls : TrafficClass) (p : Port) (c : CopyEntry) (rest : List CopyEntry) (s : State) : State :=
  sendWaiting p (deliverCopy c.frame (modQueue cls p (fun _ => rest) s))

theorem completeHead_eq {cls : TrafficClass} {p : Port} {c : CopyEntry} {rest : List CopyEntry} {s : State}
    (head : queueOf s.buffer cls p = c :: rest) :
    completeHead cls p s = evaluateIfChanged p s (schedule p (headDelivered cls p c rest s)) := by
  simp only [completeHead, head, headDelivered]

theorem headDelivered_eq (cls : TrafficClass) (p : Port) (c : CopyEntry) (rest : List CopyEntry) (s : State) :
    headDelivered cls p c rest s =
      { modPort p (fun x => { x with waitingControl := none, waitingBeacon := none }) s with
        buffer := (headDelivered cls p c rest s).buffer
        billing := (headDelivered cls p c rest s).billing
        lineOut :=
          s.lineOut ++ (s.ports[p].waitingControl.map (LineOut.control p)).toList ++
            (s.ports[p].waitingBeacon.map (LineOut.beacon p)).toList } := by
  have ports : (deliverCopy c.frame (modQueue cls p (fun _ => rest) s)).ports = s.ports := by simp
  have lineOut : (deliverCopy c.frame (modQueue cls p (fun _ => rest) s)).lineOut = s.lineOut := by simp
  refine state_ext ?_ ?_ ?_ rfl ?_ ?_ ?_ rfl ?_ ?_ ?_ ?_ ?_
  case refine_5 => exact (sendWaiting_ports ..).trans (by simp only [modPort, ports])
  case refine_9 => exact (sendWaiting_lineOut ..).trans (by rw [ports, lineOut])
  all_goals simp [headDelivered]

/-- R69: what a completion leaves of the records, the queues and the meters, before the scheduler selects. -/
theorem headDelivered_buffer {cls : TrafficClass} {p : Port} {c : CopyEntry} {rest : List CopyEntry} {s : State}
    {r : StoredFrame} (found : s.buffer.records.lookup c.frame = some r) :
    (headDelivered cls p c rest s).buffer.records = dropRecord c.frame s.buffer.records ∧
      (headDelivered cls p c rest s).buffer.streak = s.buffer.streak ∧
      (∀ (k : TrafficClass) (q : Port), queueOf (headDelivered cls p c rest s).buffer k q =
        if k = cls ∧ q = p then rest else queueOf s.buffer k q) ∧
      (headDelivered cls p c rest s).billing = (deliverCopy c.frame s).billing := by
  have named : (modQueue cls p (fun _ => rest) s).buffer.records.lookup c.frame = some r := by
    rw [modQueue_buffer_records]
    exact found
  obtain ⟨held, bulk, streak⟩ := deliverCopy_queues c.frame (modQueue cls p (fun _ => rest) s)
  simp only [headDelivered, sendWaiting_keeps]
  refine ⟨?_, ?_, fun k q => ?_, ?_⟩
  · rw [deliverCopy_of_lookup named]
    simp
  · rw [streak, modQueue_buffer_streak]
  · rw [← queueOf_modQueue cls k p q (fun _ => rest) s]
    cases k <;> simp only [queueOf, held, bulk]
  · have same : (modQueue cls p (fun _ => rest) s).billing = s.billing := by simp
    rw [deliverCopy_billing named, deliverCopy_billing found, same]

/-- R69: a completion is its event's, where a copy is being sent. -/
theorem exec_transmissionCompletion {p : Port} {s : State} {cls : TrafficClass} (sends : sendingClass s p = some cls) :
    exec (.transmissionCompletion p) s = .next (conclude s (completeHead cls p s)) := by
  have event : exec (.transmissionCompletion p) s =
      .next (match sendingClass s p with
        | some cls => conclude s (completeHead cls p s)
        | none => s) := rfl
  rw [event, sends]

theorem exec_transmissionCompletion_idle {p : Port} {s : State} (idle : sendingClass s p = none) :
    exec (.transmissionCompletion p) s = .next s := by
  have event : exec (.transmissionCompletion p) s =
      .next (match sendingClass s p with
        | some cls => conclude s (completeHead cls p s)
        | none => s) := rfl
  rw [event, idle]

/-! ### A port flushed (R73) -/

theorem flushPort_if (p : Port) (s : State) :
    (flushPort p s).1 =
      if occupancy s.buffer s.buffer.held[p] = 0 then flushed p s else evaluateQueue p (flushed p s) := by
  have none : occupancy (flushed p s).buffer (flushed p s).buffer.held[p] = 0 := by
    have empty := (flushPort_empty p s).1
    have kept : (flushPort p s).1.buffer = (flushed p s).buffer := by simp [flushPort_eq, selected, scheduleAll]
    rw [kept] at empty
    rw [empty]
    rfl
  have whole : (flushPort p s).1 = evaluateIfChanged p s (flushed p s) := rfl
  rw [whole, evaluateIfChanged, none]

theorem flushed_eq (p : Port) (s : State) :
    flushed p s =
      { s with
        buffer := (flushed p s).buffer
        billing := { s.billing with meters := (flushed p s).billing.meters }
        lineOut := s.lineOut ++ if lineBusy s p = true then [.abort p] else [] } := by
  have cleared := cleared_flushed p s
  refine state_ext cleared.directory cleared.stations cleared.forwarding rfl cleared.relief cleared.ports
    cleared.measurement (billing_of_bare cleared.billing) cleared.link cleared.now ?_ cleared.freeCount cleared.pending
  simp [flushed, abortTransmission_lineOut]

theorem flushPort_kept (p : Port) (s : State) :
    (flushPort p s).1.buffer = (flushed p s).buffer ∧ (flushPort p s).1.billing = (flushed p s).billing := by
  rw [flushPort_if]
  split_ifs <;> simp

/-- R73: a flush touches no other port's queues. -/
theorem flushed_queues_other {p q : Port} (other : q ≠ p) (s : State) :
    (flushed p s).buffer.held[q] = s.buffer.held[q] ∧ (flushed p s).buffer.bulk[q] = s.buffer.bulk[q] ∧
      (flushed p s).buffer.streak[q] = s.buffer.streak[q] := by
  have apart : p.val ≠ q.val := fun same => other (Fin.ext same.symm)
  simp [flushed, emptyQueues, modQueue, setStreak, updAt_eq_set, Vector.getElem_set_ne _ _ apart]

/-- Settles O28: the delivery of a head, and the flush of both queues, each copy by `lookup_dropRecord_self`. -/
theorem copiesLeaveByCompletionOrFlush : Obligations.CopiesLeaveByCompletionOrFlush := by
  constructor
  · intro p s sound
    refine ⟨exec_transmissionCompletion_idle, fun cls c rest r sends head found => ?_⟩
    obtain ⟨records, streak, queues, billing⟩ := headDelivered_buffer (cls := cls) (p := p) (rest := rest) found
    have frames := sameFrames_schedule p (headDelivered cls p c rest s)
    have whole := completeHead_eq head
    have buffer : (conclude s (completeHead cls p s)).buffer = (schedule p (headDelivered cls p c rest s)).buffer := by
      simp [whole]
    have meters : (conclude s (completeHead cls p s)).billing = (headDelivered cls p c rest s).billing := by
      simp [whole]
    refine ⟨conclude s (completeHead cls p s), headDelivered cls p c rest s, exec_transmissionCompletion sends, ?_, ?_, ?_,
      streak, ?_, fun k q other => ?_, ?_, fun k q other => ?_, ?_, fun id other => ?_, ?_, ?_, ?_, ?_, ?_⟩
    · rw [whole, evaluateIfChanged]
      exact congrArg (conclude s) (if_congr eq_comm rfl rfl)
    · rw [meters]
      exact headDelivered_eq ..
    · rw [buffer]
      exact frames.records.symm
    · rw [queues, if_pos ⟨rfl, rfl⟩]
    · rw [queues, if_neg other]
    · rw [buffer, frames.frames, queues, if_pos ⟨rfl, rfl⟩]
    · rw [buffer, frames.frames, queues, if_neg other]
    · obtain ⟨rising, -, -, counted⟩ := (bufferSound_iff _).mp sound
      obtain ⟨-, some, -⟩ := counted _ (mem_of_lookup_eq_some found)
      have last : r.copiesRemaining ≤ 1 ↔ r.copiesRemaining = 1 := ⟨fun few => le_antisymm few some, le_of_eq⟩
      rw [frameOf?, buffer, frames.records, records, lookup_dropRecord_self rising found]
      exact if_congr last rfl rfl
    · rw [frameOf?, buffer, frames.records, records, lookup_dropRecord_other other]
      rfl
    · rw [meters, billing]
      exact deliverCopy_billing found
    all_goals simp
  · intro p s t
    obtain ⟨buffer, billing⟩ := flushPort_kept p s
    obtain ⟨held, bulk, streak⟩ := flushPort_empty p s
    have records := flushCopies_records_congr (s.buffer.held[p] ++ s.buffer.bulk[p]) (s := s)
      (t := emptyQueues p (abortTransmission p s)) (by simp) (by simp)
    refine ⟨List.length_append, held, bulk, streak, fun q other => ?_, ?_, fun stopped => ?_,
      fun sound => ⟨fun id r found => ?_, fun u m running standing => ?_⟩⟩
    · rw [show t.buffer = _ from buffer]
      exact flushed_queues_other other s
    · have whole := flushPort_if p s
      rw [flushed_eq, ← buffer, ← billing] at whole
      exact whole
    · rw [show t.billing = _ from billing]
      refine (flushCopies_billing_of_stopped ?_ _).trans ?_ <;> simp [stopped]
    · have parted := (recordsSound_emptied (p := p) sound)
      rw [emptyQueues_records, (abortTransmission_keeps p s).2.2.2.1] at parted
      rw [frameOf?, show t.buffer = _ from buffer, flushed, records.1]
      exact lookup_flushCopies _ parted found
    · have parted := (recordsSound_emptied (p := p) sound)
      rw [emptyQueues_records, (abortTransmission_keeps p s).2.2.2.1] at parted
      have bytes : queueBytes s.buffer u (s.buffer.held[p] ++ s.buffer.bulk[p]) =
          queueBytes s.buffer u s.buffer.held[p] + queueBytes s.buffer u s.buffer.bulk[p] := by
        simp only [queueBytes_eq, List.map_append, List.sum_append]
      rw [show t.billing = _ from billing, flushed, records.2, meters_flushCopies _ parted running standing, bytes]

end Sys2Proof.Machine

/-! Admission (R62 to R65): where a frame is stored, which of its copies pass, and what the admitted copies leave. -/

namespace Sys2Proof.Machine

open Sys2Proof Sys2Proof.Safety

/-! ### A free record (R58, R62) -/

/-- R58: of more ids than are in use one is free. -/
theorem freeIdBelow_isSome {used : List Nat} {n : Nat} (few : used.length ≤ n) : (freeIdBelow used n).isSome = true := by
  rw [freeIdBelow, List.find?_isSome]
  by_contra none
  push Not at none
  have within : List.range (n + 1) ⊆ used := fun i listed => by simpa using none i listed
  have more := (List.nodup_range.subperm within).length_le
  rw [List.length_range] at more
  omega

theorem freeRecord_of_room {b : Buffer} (room : b.records.length < 8192) :
    ∃ id, freeRecord b = some id ∧ id ∉ b.records.map Prod.fst := by
  obtain ⟨id, found⟩ := Option.isSome_iff_exists.mp
    (freeIdBelow_isSome (used := b.records.map Prod.fst) (n := b.records.length) (by simp))
  refine ⟨id, (if_pos room).trans found, ?_⟩
  simpa using List.find?_some found

theorem freeRecord_of_full {b : Buffer} (full : 8192 ≤ b.records.length) : freeRecord b = none :=
  if_neg (Nat.not_lt_of_le full)

/-- R65: the record of an admitted frame is found by its id, and no other by it. -/
theorem lookup_insertRecord_self {id : Nat} (r : StoredFrame) {rs : List (Nat × StoredFrame)}
    (fresh : id ∉ rs.map Prod.fst) : (insertRecord id r rs).lookup id = some r := by
  induction rs with
  | nil => exact List.lookup_cons_self
  | cons x rs ih =>
    obtain ⟨other, fresh⟩ := not_or.mp (mt List.mem_cons.mpr fresh)
    simp only [insertRecord]
    split_ifs
    · exact List.lookup_cons_self
    · rw [List.lookup_cons, beq_eq_false_iff_ne.mpr other]
      exact ih fresh

theorem lookup_insertRecord_other {id k : Nat} (r : StoredFrame) (rs : List (Nat × StoredFrame)) (other : k ≠ id) :
    (insertRecord id r rs).lookup k = rs.lookup k := by
  have apart : (k == id) = false := beq_eq_false_iff_ne.mpr other
  induction rs with
  | nil => simp [insertRecord, List.lookup_cons, apart]
  | cons x rs ih =>
    simp only [insertRecord]
    split_ifs
    · rw [List.lookup_cons, apart]
    · rw [List.lookup_cons, List.lookup_cons, ih]

/-! ### The copies that pass (R64) -/

theorem passingCopies_eq (s : State) (cls : TrafficClass) (storage : Storage) (c free : Nat) (ps : List Port) :
    passingCopies s cls storage c free ps = (ps.filter (fitsQueue s cls storage c)).take free := by
  induction ps generalizing free with
  | nil => simp [passingCopies]
  | cons p ps ih =>
    cases free with
    | zero => simp [passingCopies]
    | succ free =>
      simp only [passingCopies]
      split_ifs with fits
      · rw [List.filter_cons_of_pos fits, List.take_succ_cons, ih]
      · rw [List.filter_cons_of_neg fits, ih]

/-! ### What is reported (R65, R143) -/

/-- R65: the state after the reports of an admission. -/
def reportedAdmission (o : Offer) (admitted marked refused : Nat) (s : State) : State :=
  if s.billing.state = .stopped then s
  else
    { s with
      billing :=
        { s.billing with
          meters :=
            s.billing.meters.set o.tenant
              (s.billing.meters[o.tenant].map fun m =>
                { m with
                  admittedBytes := m.admittedBytes + BitVec.ofNat 64 (admitted * o.data.length)
                  admittedCopies := m.admittedCopies + BitVec.ofNat 64 admitted
                  markedCopies := m.markedCopies + BitVec.ofNat 64 marked
                  refusedCongestion := m.refusedCongestion + BitVec.ofNat 64 (refused * o.data.length) }) } }

theorem reportAdmission_eq (o : Offer) (admitted marked refused : Nat) (s : State) :
    reportAdmission o.tenant o.data.length admitted marked refused s =
      reportedAdmission o admitted marked refused s := by
  rw [reportAdmission, report_eq, reportedAdmission]
  split_ifs <;> rfl

/-! ### The copies stored (R65) -/

/-- Copies at the tails of the queues of a list of ports. -/
theorem queueOf_foldl_append (cls : TrafficClass) (e : Port → CopyEntry) {ps : List Port} (once : ps.Nodup) (s : State)
    (k : TrafficClass) (q : Port) :
    queueOf (ps.foldl (fun acc p => modQueue cls p (· ++ [e p]) acc) s).buffer k q =
      queueOf s.buffer k q ++ if k = cls ∧ q ∈ ps then [e q] else [] := by
  induction ps generalizing s with
  | nil => simp
  | cons p ps ih =>
    obtain ⟨first, rest⟩ := List.nodup_cons.mp once
    rw [List.foldl_cons, ih rest, queueOf_modQueue]
    by_cases here : q = p
    · subst here
      by_cases same : k = cls <;> simp [same, first]
    · simp [here]

theorem storeFrame_queues (o : Offer) (id : Nat) (storage : Storage) {passed : List Port} (once : passed.Nodup)
    (s : State) (k : TrafficClass) (q : Port) :
    queueOf (storeFrame o id storage passed s).buffer k q =
      queueOf s.buffer k q ++
        if k = o.cls ∧ q ∈ passed then
          [{ frame := id, marked := isMarked s o.cls q, inTransmission := false }]
        else [] :=
  queueOf_foldl_append o.cls (fun p => { frame := id, marked := isMarked s o.cls p, inTransmission := false }) once
    { s with
      buffer := { s.buffer with
        records := insertRecord id (storedFrame o storage passed.length) s.buffer.records } } k q

/-- R65: storing writes the buffer alone. -/
theorem storeFrame_eq (o : Offer) (id : Nat) (storage : Storage) (passed : List Port) (s : State) :
    storeFrame o id storage passed s = { s with buffer := (storeFrame o id storage passed s).buffer } := by
  refine state_ext ?_ ?_ ?_ rfl ?_ ?_ ?_ ?_ ?_ ?_ ?_ ?_ ?_ <;> simp

/-! ### An admission -/

theorem admission_of_none {o : Offer} {s : State}
    (h : freeRecord s.buffer = none ∨ chooseStorage s o.tenant o.cls o.ingress (cellsOfLength o.data.length) = none) :
    admission o s = reportedAdmission o 0 0 o.copies.length s := by
  rw [← reportAdmission_eq]
  obtain refused | ⟨id, storage, passed, free, chosen, -⟩ := admission_cases o s
  · exact refused
  · rcases h with none | none
    · rw [none] at free
      cases free
    · rw [none] at chosen
      cases chosen

/-- R62 to R65: an admission that finds a record and a storage. -/
theorem admission_of_some {o : Offer} {s : State} {id : Nat} {storage : Storage} {passed : List Port}
    (free : freeRecord s.buffer = some id)
    (chosen : chooseStorage s o.tenant o.cls o.ingress (cellsOfLength o.data.length) = some storage)
    (list : passingCopies s o.cls storage (cellsOfLength o.data.length) (16384 - entriesInUse s.buffer) o.copies =
      passed) :
    admission o s =
      if passed = [] then
        reportedAdmission o passed.length (passed.countP (isMarked s o.cls)) (o.copies.length - passed.length) s
      else
        scheduleAll passed
          (evaluateTakers o.cls passed
            (storeFrame o id storage passed
              (reportedAdmission o passed.length (passed.countP (isMarked s o.cls))
                (o.copies.length - passed.length) s))) := by
  simp only [admission, free, chosen, list, reportAdmission_eq, List.isEmpty_iff, evaluateTakers] <;> rfl

theorem reportedAdmission_eq (o : Offer) (admitted marked refused : Nat) (s : State) :
    reportedAdmission o admitted marked refused s =
      { s with billing := (reportedAdmission o admitted marked refused s).billing } := by
  simp only [reportedAdmission]
  split_ifs <;> rfl

theorem reportedAdmission_meters {o : Offer} {s : State} {m : Meters} (running : s.billing.state ≠ .stopped)
    (standing : s.billing.meters[o.tenant] = some m) (admitted marked refused : Nat) :
    (reportedAdmission o admitted marked refused s).billing.meters[o.tenant] =
      some
        { m with
          admittedBytes := m.admittedBytes + BitVec.ofNat 64 (admitted * o.data.length)
          admittedCopies := m.admittedCopies + BitVec.ofNat 64 admitted
          markedCopies := m.markedCopies + BitVec.ofNat 64 marked
          refusedCongestion := m.refusedCongestion + BitVec.ofNat 64 (refused * o.data.length) } := by
  rw [reportedAdmission, if_neg running, standing]
  simp

theorem reportedAdmission_buffer (o : Offer) (admitted marked refused : Nat) (s : State) :
    (reportedAdmission o admitted marked refused s).buffer = s.buffer := by
  rw [reportedAdmission_eq]

/-- R64: marks are read from the relief settings and the occupancies. -/
theorem isMarked_reported (o : Offer) (admitted marked refused : Nat) (s : State) :
    isMarked (reportedAdmission o admitted marked refused s) = isMarked s := by
  rw [reportedAdmission_eq]
  rfl

/-- R63: the storage, as the statements write it. -/
theorem chooseStorage_eq (s : State) (t : TenantId) (cls : TrafficClass) (ingress : Port) (c : Nat) :
    chooseStorage s t cls ingress c =
      if tenantCommon s t + c ≤ s.directory.tenants[t].quotaCells ∧ c ≤ commonFree s then some .common
      else if cls = .held ∧ headroomInUse s ingress + c ≤ allowance s ingress then some .headroom
      else none := by
  simp only [chooseStorage, Bool.and_eq_true, decide_eq_true_eq, beq_iff_eq]

theorem isMarked_eq (s : State) (cls : TrafficClass) (q : Port) :
    isMarked s cls q =
      decide (cls = .bulk ∧ s.relief.settings.markThreshold ≤ occupancy s.buffer s.buffer.bulk[q]) := by
  rw [isMarked, Bool.decide_and, Bool.beq_eq_decide_eq]

/-- Settles O27: by whether a record and a storage are found, and whether a copy passes. -/
theorem admissionStoresThePassingCopies : Obligations.AdmissionStoresThePassingCopies := by
  intro o s once c quota storage reported t
  have chosen : chooseStorage s o.tenant o.cls o.ingress (cellsOfLength o.data.length) = storage :=
    chooseStorage_eq ..
  have told (admitted marked refused : Nat) :
      reportedAdmission o admitted marked refused s = reported admitted marked refused := rfl
  refine ⟨fun refuses => ?_, fun st named room => ?_⟩
  · refine (admission_of_none ?_).trans (told ..)
    rcases refuses with none | full
    · exact Or.inr (chosen.trans none)
    · exact Or.inl (freeRecord_of_full full)
  · obtain ⟨id, free, fresh⟩ := freeRecord_of_room room
    intro fits passed marked
    have marks : isMarked s o.cls = marked := funext fun q => isMarked_eq s o.cls q
    have whole := admission_of_some (passed := passed) free (chosen.trans named) (passingCopies_eq ..)
    rw [marks, told] at whole
    have billing : t.billing =
        (reported passed.length (passed.countP marked) (o.copies.length - passed.length)).billing := by
      rw [show t = _ from whole]
      split_ifs <;> simp
    refine ⟨fun m running standing => ?_, fun nothing => ?_, fun some => ?_⟩
    · rw [billing, ← told]
      exact reportedAdmission_meters running standing _ _ _
    · refine (show t = _ from whole).trans ?_
      rw [if_pos nothing, nothing]
      rfl
    · have onePerQueue : passed.Nodup := (once.filter _).sublist (List.take_sublist ..)
      rw [if_neg some] at whole
      generalize before : reported passed.length (passed.countP marked) (o.copies.length - passed.length) = r at whole
      have buffer : r.buffer = s.buffer := by
        rw [← before, ← told]
        exact reportedAdmission_buffer ..
      have sameMarks : isMarked r o.cls = marked := by
        rw [← before, ← told, isMarked_reported, marks]
      have frames : SameFrames (storeFrame o id st passed r).buffer t.buffer := by
        have kept : (evaluateTakers o.cls passed (storeFrame o id st passed r)).buffer =
            (storeFrame o id st passed r).buffer := by simp
        rw [show t = _ from whole, ← kept]
        exact sameFrames_scheduleAll ..
      have records : (storeFrame o id st passed r).buffer.records =
          insertRecord id (storedFrame o st passed.length) s.buffer.records := by
        rw [storeFrame_records, buffer]
      have queues (cls : TrafficClass) (q : Port) : queueOf (storeFrame o id st passed r).buffer cls q =
          queueOf s.buffer cls q ++
            if cls = o.cls ∧ q ∈ passed then
              [{ frame := id, marked := marked q, inTransmission := false }]
            else [] := by
        rw [storeFrame_queues o id st onePerQueue, buffer, sameMarks]
      refine ⟨id, storeFrame o id st passed r, lookup_none_of_not_mem fresh, storeFrame_eq .., frames.records.symm, ?_,
        queues, ?_, ?_, fun other apart => ?_, fun cls q => ?_⟩
      · rw [storeFrame_streak, buffer]
      · refine (show t = _ from whole).trans ?_
        cases o.cls <;> rfl
      · rw [frameOf?, frames.records, records, lookup_insertRecord_self _ fresh]
        rfl
      · rw [frameOf?, frames.records, records, lookup_insertRecord_other _ _ apart]
        rfl
      · refine (frames.keys cls q).trans ?_
        rw [queues, List.map_append]
        split_ifs <;> rfl

end Sys2Proof.Machine
